-- ==== Sys2Proof/Word.lean ====
section
/-! DEFINITION. The word types of the Ospura 2410: the widths its registers, fields and addresses have. -/

namespace Sys2Proof

/-- One byte of memory, of a record or of a link frame. -/
abbrev Byte := BitVec 8

/-- A 2-byte field: a format number, a policy value, an event mask (R46, R184, R176). -/
abbrev Half := BitVec 16

/-- A 4-byte field: epoch numbers, sequence numbers, write counts, stamps, check codes (R30, R52, R34, R172, R49). -/
abbrev Word := BitVec 32

/-- A byte address of the front port or the memory port: 26 bits (00, Conventions; R154). -/
abbrev Addr := BitVec 26

/-- A generation tag, 0 to 7, with 0 for "not saved" (R36, R37). -/
abbrev Gen := BitVec 3

end Sys2Proof
end

