-- ==== Sys2Proof/Config.lean ====
section
/-! DEFINITION. The values the manual leaves open, as constants with no body: nothing in Lean can evaluate them, so
whatever is proved holds for every value. `State.freeIndex` numbers the occasions on which one is read (log 12, 14, 15). -/

namespace Sys2Proof.Config

/-- R37: at power-up and at PRST_N "the contents of every entry are unknown". The value of tag entry `entry` after the
reset that drew `draw` (log 12). Safe: any contents are possible. -/
opaque tagAtReset (draw entry : Nat) : Gen

/-- R158, second coincidence: two claims raised on one event while the port is free. True when the request path is granted
first (log 14). Safe: either is possible. -/
opaque requestFirst (draw : Nat) : Bool

/-- R93, R117, R118: both line requests meet the controller on one event, and either may be taken first. True when the
commit request is (log 15). Safe: either is possible. -/
opaque ckptFirst (draw : Nat) : Bool

/-- R93, R27, R14: the offer of a latch and the examination of the head (or the acceptance of a presented request) fall on
one event, and either may be taken first. True when the offer is (log 15). Safe: either is possible. -/
opaque offerFirst (draw : Nat) : Bool

end Sys2Proof.Config
end

