-- ==== Sys2Proof/Syntax.lean ====
section
/-! DEFINITION. The commands of the 2410: one constructor of `Instr` for each row of spec/opcode_table.json, with the operands
the rules say the event carries, and the types of those operands. -/

namespace Sys2Proof

/-- The four kinds of front-port request (R1), which are also the four kinds of memory-port transaction (R154). Data bytes
stand lowest address first; mask bit i is lane i. -/
inductive Request where
  | wordRead (addr : Addr)
  | wordWrite (addr : Addr) (data : List Byte) (mask : BitVec 4)
  | granuleRead (addr : Addr)
  | granuleWrite (addr : Addr) (data : List Byte)
  deriving DecidableEq, Repr

/-- Memory's answer to the transaction in flight (R154): OKAY, with the bytes a read returns, or ERROR. -/
inductive MemAnswer where
  | okay (data : List Byte)
  | error
  deriving DecidableEq, Repr

/-- The straps JBASE and JSIZE (R43). -/
structure Straps where
  jbase : BitVec 4
  jsize : BitVec 3
  deriving DecidableEq, Repr

/-- One of the two request lines (R162), whose run a sampling event completes, with the level that the other line is sampled at on
that event, true for asserted (R163, log 7). -/
inductive LineRun where
  | ckpt (fallback : Bool)
  | fallback (ckpt : Bool)
  deriving DecidableEq, Repr

/-- The commands, one for each row of the opcode table, in the table's order. -/
inductive Instr where
  /-- POWER_UP (R137): the straps' values, the levels of PRST_N, PFW_N and CS_N at power-up (log 9), and the event flags whose raise
  falls on this very event and is taken after the reset (R173, log 31). -/
  | powerUp (straps : Straps) (prstLow pfwLow csLow : Bool) (raised : BitVec 12)
  /-- PRST_N_ASSERT (R29): PRST_N is asserted; the straps' values are sampled (R43). `raised` as for POWER_UP (R173, log 31). -/
  | prstAssert (straps : Straps) (raised : BitVec 12)
  /-- PRST_N_WITHDRAW (R137). -/
  | prstWithdraw
  /-- REQUEST_ACCEPT (R2): the front side presents a request. -/
  | requestAccept (r : Request)
  /-- HOLD_EXPIRY (R18). -/
  | holdExpiry
  /-- MEMORY_RESPONSE (R155). -/
  | memoryResponse (a : MemAnswer)
  /-- COMMIT (R77). -/
  | commit
  /-- AUTO_COMMIT_EXPIRY (R80). -/
  | autoCommitExpiry
  /-- LINE_QUALIFY (R163): the sampling event on which a line, sampled at the level opposite its qualified level, completes its run
  (log 7). -/
  | lineQualify (l : LineRun)
  /-- ROLLBACK (R115): the target epoch number. -/
  | rollback (target : Word)
  /-- DISCARD (R106): the epoch number e. -/
  | discard (upTo : Word)
  /-- FORMAT (R109). -/
  | format
  /-- CLEAR_DAMAGE (R113). -/
  | clearDamage
  /-- RETIRE_SWEEP_END (R38). -/
  | retireSweepEnd
  /-- FULL_CLEAR_END (R39). -/
  | fullClearEnd
  /-- HALT_BEGIN (R168): PFW_N is seen low. -/
  | haltBegin
  /-- HALT_END (R170): PFW_N is seen high. -/
  | haltEnd
  /-- STAMP_INCREMENT (R172). -/
  | stampIncrement
  /-- FRAME_START (R178): CS_N is asserted. -/
  | frameStart
  /-- FRAME_END (R175, R178): CS_N is deasserted. -/
  | frameEnd
  /-- GET_STATUS (R182). -/
  | getStatus
  /-- GET_IDENTITY (R183). -/
  | getIdentity
  /-- READ_EVENTS (R175). -/
  | readEvents
  /-- SET_EVENT_MASK (R176): the 16-bit mask value. -/
  | setEventMask (value : Half)
  /-- GET_OPEN_EPOCH (R35). -/
  | getOpenEpoch
  /-- GET_DIRECTORY_ENTRY (R105): the index k. -/
  | getDirectoryEntry (k : Byte)
  /-- GET_REPORT (R133). -/
  | getReport
  /-- SET_POLICY (R184): selector and 16-bit value. -/
  | setPolicy (selector : Byte) (value : Half)
  /-- GET_POLICY (R184). -/
  | getPolicy
  /-- STAGE_WINDOW (R22): slot, base, length and mode byte. -/
  | stageWindow (slot : Byte) (base length : Word) (mode : Byte)
  /-- CLEAR_WINDOW (R23): slot. -/
  | clearWindow (slot : Byte)
  /-- GET_WINDOW (R24): table selector and slot. -/
  | getWindow (table slot : Byte)
  /-- SET_STAMP (R172): the value loaded. -/
  | setStamp (value : Word)
  /-- GET_STAMP (R172). -/
  | getStamp
  /-- LINK_RESET (R185). -/
  | linkReset
  /-- UNKNOWN_COMMAND (R178): a command byte the 2410 does not know. -/
  | unknownCommand (code : Byte)
  /-- LINE_SAMPLING_EVENT (R163): the levels CKPT_REQ and FALLBACK_REQ are sampled at, true for asserted. -/
  | lineSamplingEvent (ckpt fallback : Bool)
  /-- BYTE_POSITION_END (R178): the byte that MOSI carried in the position that ends (log 6). -/
  | bytePositionEnd (mosi : Byte)
  deriving DecidableEq, Repr

end Sys2Proof
end

