-- ==== Sys2Proof/Machine/State.lean ====
section
/-! DEFINITION. The state of the 2410: one structure for each of its eleven blocks (00, Blocks), the straps and pins, the queue of
commands and the free-value counter; the reasons a step can stop; and the state after reset. -/

namespace Sys2Proof.Machine

/-! ### Window tables (R20) -/

/-- R20: the mode of a window. -/
inductive Mode where
  | journaled
  | frozen
  deriving DecidableEq, Repr

/-- R20: one window: first granule index, number of granules, mode. -/
structure Window where
  base : Nat
  length : Nat
  mode : Mode
  deriving DecidableEq, Repr

/-- R20: a window table: 8 slots, slot 0 first, `none` for an empty slot. -/
abbrev WindowTable := List (Option Window)

/-- A table whose 8 slots are all empty. -/
def emptyTable : WindowTable := List.replicate 8 none

/-- R25: the copy of the staged table and of the staged-differs flag that an operation takes. -/
structure TableCopy where
  table : WindowTable
  differs : Bool
  deriving DecidableEq, Repr

/-- The window unit (R20, R21). -/
structure WindowUnit where
  committed : WindowTable
  staged : WindowTable
  /-- R21: the staged-differs flag. -/
  stagedDiffers : Bool
  deriving DecidableEq, Repr

/-! ### Front port (R1 to R19) -/

/-- One entry of the request queue: a request and its mark, ahead of the commit point or of the rollback point (R14, R15). -/
structure Entry where
  req : Request
  marked : Bool
  deriving DecidableEq, Repr

/-- What the head does outside a save: it waits, or its own transaction is claimed or in flight. `counts` says that it is a
journaled write, whose OKAY raises the write count (R3, R8, R12). -/
inductive FrontPhase where
  | waiting
  | performing (counts : Bool)
  deriving DecidableEq, Repr

/-- R17: what a waiting head waits for. -/
inductive HoldReason where
  | anchorRead
  | recovering
  | commitPoint
  | rollingBack
  | formatting
  | clearing
  | room
  deriving DecidableEq, Repr

/-- R4: the six response statuses. -/
inductive Status where
  | okay
  | refused
  | held
  | halted
  | damaged
  | memory
  deriving DecidableEq, Repr

/-- R4: a response; `data` is empty for a write. -/
structure Response where
  status : Status
  data : List Byte
  deriving DecidableEq, Repr

/-- The front port (R2, R3, R17). -/
structure FrontPort where
  /-- R2: requests the front side keeps presented while acceptance is withheld, first presented first (log 17). -/
  presented : List Request
  /-- R2: the request queue, head first. -/
  queue : List Entry
  phase : FrontPhase
  /-- R17, R19: idle, or running with the limit in microseconds it was started with. -/
  holdTimer : Option Half
  /-- R17: the reason the head is waiting for (log 21). -/
  holdReason : Option HoldReason
  /-- The responses returned so far, oldest first: an output the model records (log 16). -/
  responses : List Response
  deriving DecidableEq, Repr

/-! ### Tag store (R37 to R40) -/

/-- What an unlisted tag entry reads as: 0, or unknown since the reset that drew `draw`, with the generations that retire
sweeps have reset since (log 12). -/
inductive TagBase where
  | zero
  | unknown (draw : Nat) (retired : List Gen)
  deriving DecidableEq, Repr

/-- R37: the tag entries, in canonical form: entry numbers strictly rising and, over `zero`, no entry listed as 0. -/
structure TagStore where
  base : TagBase
  listed : List (Nat × Gen)
  deriving DecidableEq, Repr

/-- R40: the sweep activity. -/
inductive Sweep where
  | idle
  | retiring (g : Gen)
  | fullClear
  deriving DecidableEq, Repr

/-- R40: the sweep-done mark. -/
inductive SweepDone where
  | absent
  | gen (g : Gen)
  | all
  deriving DecidableEq, Repr

/-- The tag store with its sweep state (R37, R40). -/
structure TagUnit where
  store : TagStore
  activity : Sweep
  done : SweepDone
  deriving DecidableEq, Repr

/-! ### Save unit (R63) -/

/-- R63: the save unit's phase and the values a save holds: granule index, tag entry, the 32 bytes read, the record built, and
the record's transactions not yet claimed. -/
inductive Save where
  | idle
  | room (granule tag : Nat)
  | read (granule tag : Nat)
  | record (granule tag : Nat) (payload image : List Byte) (left : List Request)
  deriving DecidableEq, Repr

/-! ### Records and anchors (R46 to R48, R97) -/

/-- R48: the five fields of a COMMIT record besides the header. -/
structure CommitInfo where
  preImages : Nat
  writes : Word
  stamp : Word
  broken : Bool
  changed : Bool
  deriving DecidableEq, Repr

/-- R46, R47, R48: what a record holds besides its header. -/
inductive RecordBody where
  | preImage (granule : Nat) (payload : List Byte)
  | commit (info : CommitInfo)
  deriving DecidableEq, Repr

/-- R46: a record, without its check code. -/
structure Record where
  format : Half
  epoch : Word
  seq : Word
  body : RecordBody
  deriving DecidableEq, Repr

/-- R104: one entry of the epoch directory. -/
structure DirEntry where
  number : Word
  firstSlot : Nat
  slots : Nat
  preImages : Nat
  writes : Word
  stamp : Word
  broken : Bool
  deriving DecidableEq, Repr

/-- R97: an anchor, without its check code. -/
structure Anchor where
  seq : Word
  format : Half
  jsize : Byte
  jbase : Byte
  table : WindowTable
  directory : List DirEntry
  openNumber : Word
  openFirstSlot : Nat
  openFirstSeq : Word
  openBroken : Bool
  tail : Nat
  occupancy : Nat
  intent : Option Word
  deriving DecidableEq, Repr

/-- R97: the two anchor slots. -/
inductive AnchorSlot where
  | slot0
  | slot1
  deriving DecidableEq, Repr

/-- R103: the steps that ask for an anchor update. -/
inductive Requester where
  | reclaim
  | unguard
  | commit
  | intent
  | completion
  | recovery
  | discard
  | clearing
  deriving DecidableEq, Repr

/-- R100: what an anchor update fixes when it is asked for. -/
structure AnchorWrite where
  target : AnchorSlot
  seq : Word
  image : Anchor
  requester : Requester
  deriving DecidableEq, Repr

/-- R99: the newest slot and the newest slot sequence. -/
structure Newest where
  slot : AnchorSlot
  seq : Word
  deriving DecidableEq, Repr

/-- The anchor writer (R99, R100) and the format number in force (R46). -/
structure AnchorWriter where
  /-- R100: IDLE, or WRITING. -/
  active : Option AnchorWrite
  newest : Option Newest
  /-- R46, R182: 0 while the newest slot is none. -/
  format : Half
  deriving DecidableEq, Repr

/-! ### Journal controller (R26, R32, R52, R79, R104) -/

/-- R32: the open-epoch record. -/
structure OpenEpoch where
  number : Word
  firstSlot : Nat
  firstSeq : Word
  preImages : Nat
  writes : Word
  broken : Bool
  generation : Gen
  deriving DecidableEq, Repr

/-- R28: the damage causes. -/
inductive Cause where
  | anchor
  | replay
  | scan
  | exhausted
  deriving DecidableEq, Repr

/-- R124: a replay walk: the slot to be treated next, the slots left, the sequence number expected there. -/
structure Walk where
  slot : Nat
  left : Nat
  expected : Word
  deriving DecidableEq, Repr

/-- The steps of a commit (R83, R84, R90, R92). `record` holds the fields fixed when the COMMIT record was built; its writes may still
wait for an anchor update (log 19). -/
inductive CommitStep where
  | drain
  | record (info : CommitInfo)
  | tagWait
  | anchor
  deriving DecidableEq, Repr

/-- A commit in progress (R82): the copy it applies, whether a COMMIT command started it, whether a drop is due to be
announced (R88, R89), its step. -/
structure CommitCtx where
  copy : TableCopy
  byCommand : Bool
  dropped : Bool
  step : CommitStep
  deriving DecidableEq, Repr

/-- R132: what asked for a rollback. -/
inductive ReportCause where
  | command
  | fallbackLine
  | recovery
  deriving DecidableEq, Repr

/-- The steps of a rollback (R120, R122, R124, R129, R130). -/
inductive RollbackStep where
  | drain
  | intent
  | replay (walk : Walk)
  | tagWait
  | anchor
  deriving DecidableEq, Repr

/-- R119: the rollback context and the rollback's step. -/
structure RollbackCtx where
  target : Word
  openNumber : Word
  cause : ReportCause
  start : Word
  step : RollbackStep
  deriving DecidableEq, Repr

/-- R143: the four courses of recovery. -/
inductive Course where
  | redo
  | broken
  | forward
  | undo
  deriving DecidableEq, Repr

/-- The steps of RECOVERING (R140, R144, R149). -/
inductive RecoveryStep where
  | scan (count slot : Nat)
  | replay (course : Course) (walk : Walk)
  | tagWait (course : Course)
  | anchor (course : Course)
  deriving DecidableEq, Repr

/-- R139: the recovery context; the commit-found mark is `found`, with the COMMIT record's fields. `dropped` says that a drop
of R146 is due to be announced. -/
structure RecoveryCtx where
  intent : Option Word
  openNumber : Word
  start : Word
  found : Option CommitInfo
  dropped : Bool
  step : RecoveryStep
  deriving DecidableEq, Repr

/-- R107: a discard in progress: the state it came from, the size of the discard set, the tail its image records, and the slots
it frees. -/
structure DiscardCtx where
  fromUnguarded : Bool
  count : Nat
  newTail : Nat
  freed : Nat
  deriving DecidableEq, Repr

/-- The eleven state names (R26). -/
inductive CtlName where
  | anchorRead
  | unformatted
  | recovering
  | opened
  | unguarded
  | committing
  | rollingBack
  | discarding
  | formatting
  | clearing
  | damaged
  deriving DecidableEq, Repr

/-- The steps of a format (R110, R111). `apply` waits for the head in progress (R8), `clear` for the full clear. -/
inductive FormatStep where
  | headWait
  | scrub (slot : Nat)
  | invalidate0
  | invalidate1
  | slot0
  | apply
  | clear
  deriving DecidableEq, Repr

/-- R109: a format in progress. -/
structure FormatCtx where
  cameFrom : CtlName
  copy : TableCopy
  number : Half
  step : FormatStep
  deriving DecidableEq, Repr

/-- The steps of a clearing (R114). -/
inductive ClearStep where
  | headWait
  | clear
  | apply
  | anchor
  deriving DecidableEq, Repr

/-- R113: a clearing in progress. -/
structure ClearCtx where
  copy : TableCopy
  step : ClearStep
  deriving DecidableEq, Repr

/-- R26: the controller's state, with the context of the operation that runs in it. OPEN is `opened`. -/
inductive Ctl where
  | anchorRead
  | unformatted
  | recovering (c : RecoveryCtx)
  | opened
  | unguarded
  | committing (c : CommitCtx)
  | rollingBack (c : RollbackCtx)
  | discarding (c : DiscardCtx)
  | formatting (c : FormatCtx)
  | clearing (c : ClearCtx)
  | damaged (cause : Cause)
  deriving DecidableEq, Repr

/-- A reclaim or an unguard made for the save unit, inside the state the controller is in (R26, R57, R60). -/
inductive RoomOp where
  | reclaim
  | unguard
  deriving DecidableEq, Repr

/-- R79: the auto-commit timer; the number is the remaining time in ms. -/
inductive AutoTimer where
  | idle
  | running (remaining : Half)
  | paused (remaining : Half)
  deriving DecidableEq, Repr

/-- R157: the controller operation that a transfer belongs to. -/
inductive Owner where
  | anchorRead
  | scan
  | replayRead
  | replayWrite
  | commitRecord
  | update
  | scrub
  | invalidate0
  | invalidate1
  | slot0
  deriving DecidableEq, Repr

/-- A controller operation of one or more transactions (R157, R159): those not yet answered, first the one claimed, in flight or
next to be claimed, and the bytes read so far. -/
structure Work where
  owner : Owner
  todo : List Request
  got : List Byte
  deriving DecidableEq, Repr

/-- The journal controller. -/
structure Controller where
  state : Ctl
  epoch : Option OpenEpoch
  tail : Nat
  head : Nat
  occupancy : Nat
  nextSeq : Word
  directory : List DirEntry
  timer : AutoTimer
  /-- The reclaim or unguard in progress; in OPEN it shows as the anchor update in progress mark (R27). It can outlast the request it
  was made for, and the first step of the commit or rollback it was made in (R58, R61, log 19). -/
  room : Option RoomOp
  /-- R147: the window change lost mark. -/
  windowLost : Bool
  work : Option Work
  deriving DecidableEq, Repr

/-! ### Memory port (R154 to R158) -/

/-- R156: the two claimants. -/
inductive Claimant where
  | request
  | controller
  deriving DecidableEq, Repr

/-- The memory port and its arbiter. -/
structure Port where
  reqClaim : Option Request
  ctlClaim : Option Request
  inFlight : Option (Claimant × Request)
  lastGrant : Claimant
  /-- R161: whether the request path has been granted at a meeting with the controller's claim since the reset (log 14). -/
  met : Bool
  deriving DecidableEq, Repr

/-! ### Line unit (R162 to R167) -/

/-- R162: a line's qualifier: the qualified level, true for ASSERTED, and the run count. -/
structure Qualifier where
  asserted : Bool
  run : Nat
  deriving DecidableEq, Repr

/-- The line unit: two qualifiers, two pending latches, the halt condition. -/
structure LineUnit where
  ckpt : Qualifier
  fallback : Qualifier
  ckptLatch : Bool
  fallbackLatch : Bool
  halt : Bool
  deriving DecidableEq, Repr

/-! ### Event unit (R132, R173 to R176) -/

/-- R173: the twelve event flags, in the order of their bits (R190). -/
inductive Event where
  | committed
  | sealFailed
  | rolledBack
  | recovered
  | reclaimed
  | unguarded
  | damaged
  | memoryError
  | refused
  | heldOut
  | lineDiscarded
  | formatted
  deriving DecidableEq, Repr

/-- R132: how a rollback ended. -/
inductive ReportOutcome where
  | complete
  | rolledForward
  | notSafe
  | damaged
  deriving DecidableEq, Repr

/-- R132: the rollback report. -/
structure Report where
  cause : ReportCause
  target : Option Word
  openAtStart : Word
  replayed : Nat
  start : Word
  finish : Option Word
  outcome : Option ReportOutcome
  deriving DecidableEq, Repr

/-- The event unit: flags, mask, the capture of a READ EVENTS with the flags raised since, and the rollback report. -/
structure EventUnit where
  flags : BitVec 12
  mask : BitVec 12
  capture : Option (BitVec 12)
  raisedSince : BitVec 12
  report : Option Report
  deriving DecidableEq, Repr

/-! ### Management link (R177 to R184) -/

/-- R179: the result codes of a frame. UNSAFE is `notSafe`. -/
inductive Result where
  | done
  | accepted
  | busy
  | notOpen
  | noSuch
  | notSafe
  | badArgument
  | overlap
  | noTagRoom
  | halted
  | unknown
  deriving DecidableEq, Repr

/-- R180: the long operations. -/
inductive LongOp where
  | commit
  | rollback
  | discard
  | format
  | clearDamage
  deriving DecidableEq, Repr

/-- R180: the last long-operation result. -/
inductive LongResult where
  | none
  | accepted
  | done
  | failed
  | notSafe
  deriving DecidableEq, Repr

/-- R178: the frame decoder's six conditions; `arguments` holds the command byte and the argument bytes so far, `answer` the
number of bytes of the result and response clocked out. -/
inductive FramePos where
  | idle
  | command
  | arguments (code : Byte) (got : List Byte)
  | turnaround
  | answer (clocked : Nat)
  | overrun
  deriving DecidableEq, Repr

/-- R178: what the execution event fixes: the result and every response byte. -/
structure Answer where
  result : Result
  response : List Byte
  deriving DecidableEq, Repr

/-- R184: the four policies. -/
structure Policies where
  reclaim : Bool
  autoCommit : Half
  holdLimit : Half
  qualify : BitVec 4
  deriving DecidableEq, Repr

/-- The management link. -/
structure Link where
  /-- The level of CS_N, true for low; IDLE with CS_N low is the decoder that ignores SCK after a reset (R178). -/
  csLow : Bool
  pos : FramePos
  answer : Option Answer
  lastOp : Option LongOp
  lastResult : LongResult
  policies : Policies
  deriving DecidableEq, Repr

/-! ### The whole part -/

/-- The state of the 2410. -/
structure State where
  /-- The commands waiting, first in, first out. -/
  pending : List Instr
  /-- R43: the strap values sampled at the last reset. -/
  jbase : BitVec 4
  jsize : BitVec 3
  /-- PRST_N is held asserted (R162, R172). -/
  inReset : Bool
  front : FrontPort
  windows : WindowUnit
  tags : TagUnit
  save : Save
  jc : Controller
  anchor : AnchorWriter
  port : Port
  lines : LineUnit
  /-- R172: the stamp counter. -/
  stamp : Word
  events : EventUnit
  link : Link
  /-- The model's own: the next occasion a free value is read at (log 12, 14, 15). -/
  freeIndex : Nat
  deriving DecidableEq, Repr

/-- The faults of the part. The manual gives it none: whatever happens, the part goes on (R28, R160, R179). So the type has no
constructor, nothing raises one, and that is exact, neither safe nor unsafe. -/
inductive Fault where
  deriving DecidableEq, Repr

/-- The refusals of the model. -/
inductive Refusal where
  /-- Raised by `exec`'s arm of a command that has no meaning yet; safe. No arm raises it now. -/
  | notModelled (mnemonic : String)
  deriving DecidableEq, Repr

/-- R184: the default policies. -/
def Policies.default : Policies := { reclaim := true, autoCommit := 0, holdLimit := 0, qualify := 3 }

/-- R174: the default mask: SEAL_FAILED, ROLLED_BACK, RECOVERED, UNGUARDED, DAMAGED, MEMORY_ERROR and HELD_OUT on. -/
def defaultMask : BitVec 12 := 0x2EE

/-- R162: a qualifier after reset. -/
def Qualifier.reset : Qualifier := { asserted := false, run := 0 }

/-- The machine right after reset (R6, R25, R29, R40, R54, R63, R99, R100, R119, R133, R161, R162, R166, R172 to R174, R178,
R180, R184). The straps are 0, PRST_N, PFW_N and CS_N are high, and the anchor read has not raised its first claim (log 8); the
undefined pointers hold 0, which nothing reads (log 11). -/
def State.reset : State where
  pending := []
  jbase := 0
  jsize := 0
  inReset := false
  front := { presented := [], queue := [], phase := .waiting, holdTimer := none, holdReason := none, responses := [] }
  windows := { committed := emptyTable, staged := emptyTable, stagedDiffers := false }
  tags := { store := { base := .unknown 0 [], listed := [] }, activity := .idle, done := .absent }
  save := .idle
  jc :=
    { state := .anchorRead, epoch := none, tail := 0, head := 0, occupancy := 0, nextSeq := 0, directory := [], timer := .idle,
      room := none, windowLost := false, work := none }
  anchor := { active := none, newest := none, format := 0 }
  port := { reqClaim := none, ctlClaim := none, inFlight := none, lastGrant := .controller, met := false }
  lines := { ckpt := .reset, fallback := .reset, ckptLatch := false, fallbackLatch := false, halt := false }
  stamp := 0
  events := { flags := 0, mask := defaultMask, capture := none, raisedSince := 0, report := none }
  link := { csLow := false, pos := .idle, answer := none, lastOp := none, lastResult := .none, policies := .default }
  freeIndex := 1

end Sys2Proof.Machine
end

