-- ==== Sys2Proof/Machine/Tags.lean ====
section
/-! DEFINITION. Generations (R36) and the tag store's operations (R37 to R40). -/

namespace Sys2Proof.Machine

/-- R36: the generation of epoch e. -/
def generationOf (e : Nat) : Gen := BitVec.ofNat 3 ((e - 1) % 7 + 1)

/-- What an unlisted entry reads as. -/
def TagBase.read : TagBase → Nat → Gen
  | .zero, _ => 0
  | .unknown draw retired, t => if Config.tagAtReset draw t ∈ retired then 0 else Config.tagAtReset draw t

/-- The value listed for an entry. -/
def listedTag : List (Nat × Gen) → Nat → Option Gen
  | [], _ => none
  | (k, v) :: rest, t => if k = t then some v else listedTag rest t

/-- R37: the value of tag entry t. -/
def TagStore.read (s : TagStore) (t : Nat) : Gen := (listedTag s.listed t).getD (s.base.read t)

/-- Lists a value for an entry, keeping the entry numbers rising. -/
def putTag : List (Nat × Gen) → Nat → Gen → List (Nat × Gen)
  | [], t, g => [(t, g)]
  | (k, v) :: rest, t, g =>
    if t < k then (t, g) :: (k, v) :: rest
    else if t = k then (t, g) :: rest
    else (k, v) :: putTag rest t g

/-- R37: the tag set. -/
def TagStore.set (s : TagStore) (t : Nat) (g : Gen) : TagStore :=
  if s.base = .zero ∧ g = 0 then { s with listed := s.listed.filter fun p => p.1 ≠ t }
  else { s with listed := putTag s.listed t g }

/-- R38: every entry that holds r is reset to 0. -/
def TagStore.retire (s : TagStore) (r : Gen) : TagStore :=
  match s.base with
  | .zero => { s with listed := s.listed.filter fun p => p.2 ≠ r }
  | .unknown draw retired =>
    { base := .unknown draw (r :: retired), listed := s.listed.map fun p => if p.2 = r then (p.1, 0) else p }

/-- R39: every entry is reset to 0. -/
def TagStore.cleared : TagStore := { base := .zero, listed := [] }

/-- Whether entry numbers rise strictly. -/
def risingTags : List (Nat × Gen) → Bool
  | [] => true
  | [_] => true
  | (k, _) :: (k', v) :: rest => decide (k < k') && risingTags ((k', v) :: rest)

/-- The canonical form: entry numbers rise strictly and, over 0, no entry is listed as 0. -/
def TagStore.wf (s : TagStore) : Bool :=
  risingTags s.listed && (s.base != .zero || s.listed.all fun p => p.2 != 0)

/-- R38, R40: a retire sweep for r starts. -/
def TagUnit.startRetire (u : TagUnit) (r : Gen) : TagUnit := { u with activity := .retiring r, done := .absent }

/-- R39, R40: a full clear starts; a retire sweep or full clear still running ends where it stands. -/
def TagUnit.startClear (u : TagUnit) : TagUnit := { u with activity := .fullClear, done := .absent }

/-- R41: whether an epoch with number e may open. -/
def TagUnit.mayOpen (u : TagUnit) (e : Nat) : Bool :=
  match u.done with
  | .absent => false
  | .gen g => g == generationOf e
  | .all => true

end Sys2Proof.Machine
end

