-- ==== Sys2Proof/Decode.lean ====
section
/-! DEFINITION. Byte order (R186), the management frame's command codes and argument layouts (R177, R190), and
`decodeTableWord`. The opcode table gives no row any bits, so `decodeTableWord` spells no command; the frame codes are decoded
and encoded here instead, from the table of R190. -/

namespace Sys2Proof

/-- The low `n` bytes of a number, least significant byte first (R186). -/
def leBytes : Nat → Nat → List Byte
  | 0, _ => []
  | n + 1, x => BitVec.ofNat 8 x :: leBytes n (x / 256)

/-- The number that bytes in the order of R186 form. -/
def leNat : List Byte → Nat
  | [] => 0
  | b :: bs => b.toNat + 256 * leNat bs

/-- A 4-byte field read from bytes. -/
def leWord (bs : List Byte) : Word := BitVec.ofNat 32 (leNat bs)

/-- A 2-byte field read from bytes. -/
def leHalf (bs : List Byte) : Half := BitVec.ofNat 16 (leNat bs)

/-- The field of `n` bytes at offset `o` of a record, slot or frame part. -/
def fieldAt (o n : Nat) (bs : List Byte) : List Byte := (bs.drop o).take n

/-- R190: the argument count a and the response count r of a listed command code; none for a code not listed. -/
def commandShape (code : Byte) : Option (Nat × Nat) :=
  match code.toNat with
  | 0x01 => some (0, 24)
  | 0x02 => some (0, 17)
  | 0x03 => some (0, 2)
  | 0x04 => some (2, 0)
  | 0x05 => some (0, 24)
  | 0x06 => some (1, 23)
  | 0x07 => some (0, 23)
  | 0x08 => some (3, 0)
  | 0x09 => some (0, 6)
  | 0x10 => some (10, 0)
  | 0x11 => some (1, 0)
  | 0x12 => some (2, 13)
  | 0x20 => some (0, 0)
  | 0x21 => some (4, 0)
  | 0x22 => some (4, 0)
  | 0x23 => some (0, 0)
  | 0x24 => some (0, 0)
  | 0x30 => some (4, 0)
  | 0x31 => some (0, 4)
  | 0x3F => some (0, 0)
  | _ => none

/-- R190: the command that a command byte and its argument bytes spell. -/
def frameCommand (code : Byte) (args : List Byte) : Instr :=
  match code.toNat with
  | 0x01 => .getStatus
  | 0x02 => .getIdentity
  | 0x03 => .readEvents
  | 0x04 => .setEventMask (leHalf (fieldAt 0 2 args))
  | 0x05 => .getOpenEpoch
  | 0x06 => .getDirectoryEntry (args.getD 0 0)
  | 0x07 => .getReport
  | 0x08 => .setPolicy (args.getD 0 0) (leHalf (fieldAt 1 2 args))
  | 0x09 => .getPolicy
  | 0x10 => .stageWindow (args.getD 0 0) (leWord (fieldAt 1 4 args)) (leWord (fieldAt 5 4 args)) (args.getD 9 0)
  | 0x11 => .clearWindow (args.getD 0 0)
  | 0x12 => .getWindow (args.getD 0 0) (args.getD 1 0)
  | 0x20 => .commit
  | 0x21 => .rollback (leWord (fieldAt 0 4 args))
  | 0x22 => .discard (leWord (fieldAt 0 4 args))
  | 0x23 => .format
  | 0x24 => .clearDamage
  | 0x30 => .setStamp (leWord (fieldAt 0 4 args))
  | 0x31 => .getStamp
  | 0x3F => .linkReset
  | _ => .unknownCommand code

/-- R190: the command byte and the argument bytes that firmware sends for a link command; none for an event that is no link
command. -/
def frameBytes : Instr → Option (Byte × List Byte)
  | .getStatus => some (0x01, [])
  | .getIdentity => some (0x02, [])
  | .readEvents => some (0x03, [])
  | .setEventMask v => some (0x04, leBytes 2 v.toNat)
  | .getOpenEpoch => some (0x05, [])
  | .getDirectoryEntry k => some (0x06, [k])
  | .getReport => some (0x07, [])
  | .setPolicy sel v => some (0x08, sel :: leBytes 2 v.toNat)
  | .getPolicy => some (0x09, [])
  | .stageWindow slot base length mode => some (0x10, slot :: leBytes 4 base.toNat ++ leBytes 4 length.toNat ++ [mode])
  | .clearWindow slot => some (0x11, [slot])
  | .getWindow table slot => some (0x12, [table, slot])
  | .commit => some (0x20, [])
  | .rollback c => some (0x21, leBytes 4 c.toNat)
  | .discard e => some (0x22, leBytes 4 e.toNat)
  | .format => some (0x23, [])
  | .clearDamage => some (0x24, [])
  | .setStamp v => some (0x30, leBytes 4 v.toNat)
  | .getStamp => some (0x31, [])
  | .linkReset => some (0x3F, [])
  | .unknownCommand code => some (code, [])
  | .powerUp .. => none
  | .prstAssert .. => none
  | .prstWithdraw => none
  | .requestAccept _ => none
  | .holdExpiry => none
  | .memoryResponse _ => none
  | .autoCommitExpiry => none
  | .lineQualify .. => none
  | .retireSweepEnd => none
  | .fullClearEnd => none
  | .haltBegin => none
  | .haltEnd => none
  | .stampIncrement => none
  | .frameStart => none
  | .frameEnd => none
  | .lineSamplingEvent .. => none
  | .bytePositionEnd _ => none

/-- The command that an opcode-table word spells. No row of spec/opcode_table.json gives bits ("fixed" and "fields" are empty
in all 38), so no word spells one. -/
def decodeTableWord (_nbits _w : Nat) : Option Instr := none

end Sys2Proof
end

