-- ==== Sys2Proof/Machine/Operands.lean ====
section
/-! DEFINITION. What a request's operands say: its address, granule, direction, size and aligned form (R1, R154). -/

namespace Sys2Proof

/-- The byte address a request carries. -/
def Request.addr : Request → Addr
  | .wordRead a => a
  | .wordWrite a _ _ => a
  | .granuleRead a => a
  | .granuleWrite a _ => a

/-- R1: whether a request is a write. -/
def Request.isWrite : Request → Bool
  | .wordRead _ => false
  | .wordWrite _ _ _ => true
  | .granuleRead _ => false
  | .granuleWrite _ _ => true

/-- R1: the number of bytes a request returns: 4, 32, or none for a write. -/
def Request.returnSize : Request → Nat
  | .wordRead _ => 4
  | .wordWrite _ _ _ => 0
  | .granuleRead _ => 32
  | .granuleWrite _ _ => 0

/-- R1: the granule index, the address divided by 32. -/
def Request.granule (r : Request) : Nat := r.addr.toNat / 32

/-- R5: a WORD WRITE whose mask has no lane set. -/
def Request.emptyMask : Request → Bool
  | .wordWrite _ _ mask => mask == 0
  | _ => false

/-- R1, R154: the address with the bits below the request's size cleared. -/
def Request.aligned : Request → Request
  | .wordRead a => .wordRead (a &&& 0x3FFFFFC)
  | .wordWrite a data mask => .wordWrite (a &&& 0x3FFFFFC) data mask
  | .granuleRead a => .granuleRead (a &&& 0x3FFFFE0)
  | .granuleWrite a data => .granuleWrite (a &&& 0x3FFFFE0) data

/-- A memory-port address from a byte offset (R154). -/
def byteAddr (n : Nat) : Addr := BitVec.ofNat 26 n

end Sys2Proof
end

