-- ==== Sys2Proof/Machine/Ring.lean ====
section
/-! DEFINITION. Where the journal region lies and how it is divided (R43, R44), ring order, and the transactions that carry a
record or an anchor slot to and from memory (R45, R100, R137). -/

namespace Sys2Proof.Machine

/-- R43: the region's base byte address. -/
def regionBase (jbase : BitVec 4) : Nat := 4194304 * jbase.toNat

/-- R43: the region's size in bytes. -/
def regionSize (jsize : BitVec 3) : Nat := 32768 * 2 ^ jsize.toNat

/-- R44: the number of record slots. -/
def ringCapacity (jsize : BitVec 3) : Nat := (regionSize jsize - 1024) / 48

/-- R43, R7: whether a granule lies in the journal region. -/
def inRegion (jbase : BitVec 4) (jsize : BitVec 3) (g : Nat) : Bool :=
  decide (regionBase jbase / 32 ≤ g) && decide (g < (regionBase jbase + regionSize jsize) / 32)

/-- R44: the slot after s. -/
def slotAfter (cap s : Nat) : Nat := if s + 1 = cap then 0 else s + 1

/-- R44: the slot before s. -/
def slotBefore (cap s : Nat) : Nat := if s = 0 then cap - 1 else s - 1

/-- R44: the byte address of ring slot s. -/
def slotAddr (base s : Nat) : Nat := base + 1024 + 48 * s

/-- R45: the five writes of a record's 48 bytes at slot s, ascending. -/
def recordWrites (base s : Nat) (bytes : List Byte) : List Request :=
  let a := slotAddr base s
  let word := fun o => Request.wordWrite (byteAddr (a + o)) (fieldAt o 4 bytes) 0xF
  if s % 2 = 0 then
    [.granuleWrite (byteAddr a) (fieldAt 0 32 bytes), word 32, word 36, word 40, word 44]
  else
    [word 0, word 4, word 8, word 12, .granuleWrite (byteAddr (a + 16)) (fieldAt 16 32 bytes)]

/-- R45: the five reads of the record at slot s, ascending. -/
def recordReads (base s : Nat) : List Request :=
  let a := slotAddr base s
  let word := fun o => Request.wordRead (byteAddr (a + o))
  if s % 2 = 0 then
    [.granuleRead (byteAddr a), word 32, word 36, word 40, word 44]
  else
    [word 0, word 4, word 8, word 12, .granuleRead (byteAddr (a + 16))]

/-- R97: an anchor slot's number. -/
def AnchorSlot.number : AnchorSlot → Nat
  | .slot0 => 0
  | .slot1 => 1

/-- R100: the slot an update goes to when this one is the newest. -/
def AnchorSlot.other : AnchorSlot → AnchorSlot
  | .slot0 => .slot1
  | .slot1 => .slot0

/-- R100: the 16 GRANULE WRITEs of an anchor slot's 512 bytes, ascending. -/
def anchorWrites (base : Nat) (slot : AnchorSlot) (bytes : List Byte) : List Request :=
  (List.range 16).map fun i => .granuleWrite (byteAddr (base + 512 * slot.number + 32 * i)) (fieldAt (32 * i) 32 bytes)

/-- R137: the 32 GRANULE READs of the anchor read, ascending. -/
def anchorReads (base : Nat) : List Request :=
  (List.range 32).map fun i => .granuleRead (byteAddr (base + 32 * i))

end Sys2Proof.Machine
end

