-- ==== Sys2Proof/Machine/Windows.lean ====
section
/-! DEFINITION. Window tables: classes (R7), tag bases and tag entries (R20), and the checks of STAGE WINDOW (R22). -/

namespace Sys2Proof.Machine

/-- R7: the four classes. -/
inductive Class where
  | journalRegion
  | journaled
  | frozen
  | plain
  deriving DecidableEq, Repr

/-- R7: a window holds the granules from its base up to but not including base plus length. -/
def Window.holds (w : Window) (g : Nat) : Bool := decide (w.base ≤ g) && decide (g < w.base + w.length)

/-- The window of a table that holds a granule, if one does. -/
def windowAt : WindowTable → Nat → Option Window
  | [], _ => none
  | none :: ws, g => windowAt ws g
  | some w :: ws, g => if w.holds g then some w else windowAt ws g

/-- R7: the class of a granule. -/
def classOf (jbase : BitVec 4) (jsize : BitVec 3) (table : WindowTable) (g : Nat) : Class :=
  if inRegion jbase jsize g then .journalRegion
  else
    match windowAt table g with
    | none => .plain
    | some w => match w.mode with
      | .journaled => .journaled
      | .frozen => .frozen

/-- R20: the granules that a slot's window adds to the tag entries. -/
def tagLength : Option Window → Nat
  | none => 0
  | some w => match w.mode with
    | .journaled => w.length
    | .frozen => 0

/-- R20: the lengths of the JOURNALED windows together. -/
def journaledLength (table : WindowTable) : Nat := (table.map tagLength).sum

/-- R20: the tag base of a slot: the lengths of the JOURNALED windows in lower-numbered slots. -/
def tagBase (table : WindowTable) (slot : Nat) : Nat := journaledLength (table.take slot)

/-- R20: the tag entry of a granule of a JOURNALED window, from a running tag base. -/
def tagEntryFrom : WindowTable → Nat → Nat → Nat
  | [], base, _ => base
  | none :: ws, base, g => tagEntryFrom ws base g
  | some w :: ws, base, g =>
    match w.mode with
    | .journaled => if w.holds g then base + (g - w.base) else tagEntryFrom ws (base + w.length) g
    | .frozen => tagEntryFrom ws base g

/-- R20: the tag entry of a granule of a JOURNALED window. -/
def tagEntry (table : WindowTable) (g : Nat) : Nat := tagEntryFrom table 0 g

/-- Whether two runs of granules share one. -/
def runsMeet (base length base' length' : Nat) : Bool :=
  decide (base < base' + length') && decide (base' < base + length)

/-- Whether a window shares a granule with one of a table's windows. -/
def meetsTable (w : Window) (table : WindowTable) : Bool :=
  table.any fun
    | none => false
    | some v => runsMeet w.base w.length v.base v.length

/-- R22 (3): the window shares a granule with the journal region or with a window in another slot. -/
def overlaps (jbase : BitVec 4) (jsize : BitVec 3) (table : WindowTable) (slot : Nat) (w : Window) : Bool :=
  runsMeet w.base w.length (regionBase jbase / 32) (regionSize jsize / 32) || meetsTable w (table.set slot none)

/-- R190: the mode a STAGE WINDOW mode byte names. -/
def modeOf (b : Byte) : Option Mode :=
  if b = 1 then some .journaled else if b = 2 then some .frozen else none

/-- R21: the staged-differs flag for two tables. -/
def differ (staged committed : WindowTable) : Bool := decide (staged ≠ committed)

/-- R21: the window unit works the flag out again. -/
def WindowUnit.workOut (w : WindowUnit) : WindowUnit := { w with stagedDiffers := differ w.staged w.committed }

/-- The staged table is replaced and the flag worked out again (R21, R22, R23, R185). -/
def WindowUnit.stage (w : WindowUnit) (table : WindowTable) : WindowUnit := WindowUnit.workOut { w with staged := table }

/-- A table becomes the committed table and the flag is worked out again (R25). -/
def WindowUnit.apply (w : WindowUnit) (table : WindowTable) : WindowUnit := WindowUnit.workOut { w with committed := table }

end Sys2Proof.Machine
end

