-- ==== Sys2Proof/Machine/Flags.lean ====
section
/-! DEFINITION. Event flags and EVT_N (R173, R174), the state names (R26), READY (R171), the anchor update in progress mark (R27),
and the values the state implies: capacity, region base, free (R52). -/

namespace Sys2Proof.Machine

/-- R190: the bit of each event flag. -/
def Event.bit : Event → BitVec 12
  | .committed => 0x001
  | .sealFailed => 0x002
  | .rolledBack => 0x004
  | .recovered => 0x008
  | .reclaimed => 0x010
  | .unguarded => 0x020
  | .damaged => 0x040
  | .memoryError => 0x080
  | .refused => 0x100
  | .heldOut => 0x200
  | .lineDiscarded => 0x400
  | .formatted => 0x800

/-- R173, R175: a flag is raised: it is set whatever the mask, and an open capture notes that it was raised again. -/
def EventUnit.raise (e : Event) (u : EventUnit) : EventUnit :=
  { u with flags := u.flags ||| e.bit, raisedSince := u.raisedSince ||| e.bit }

/-- R173: a condition sets its event flag. -/
def State.raise (e : Event) (s : State) : State := { s with events := s.events.raise e }

/-- R173: several flags are raised on one event. -/
def State.raiseAll (fs : BitVec 12) (s : State) : State :=
  { s with events.flags := s.events.flags ||| fs, events.raisedSince := s.events.raisedSince ||| fs }

/-- Raises a flag when a condition holds. -/
def State.raiseIf (b : Bool) (e : Event) (s : State) : State := if b then s.raise e else s

/-- Whether a flag is set. -/
def State.flag (e : Event) (s : State) : Bool := s.events.flags &&& e.bit != 0

/-- R174: EVT_N is asserted while a set flag's mask entry is on, and deasserted throughout PRST_N. -/
def State.evtAsserted (s : State) : Bool := !s.inReset && s.events.flags &&& s.events.mask != 0

/-- R26: the name of the controller's state. -/
def Ctl.name : Ctl → CtlName
  | .anchorRead => .anchorRead
  | .unformatted => .unformatted
  | .recovering _ => .recovering
  | .opened => .opened
  | .unguarded => .unguarded
  | .committing _ => .committing
  | .rollingBack _ => .rollingBack
  | .discarding _ => .discarding
  | .formatting _ => .formatting
  | .clearing _ => .clearing
  | .damaged _ => .damaged

/-- The controller state's name. -/
def State.name (s : State) : CtlName := s.jc.state.name

/-- R28: the damage cause, none unless DAMAGED. -/
def State.damageCause (s : State) : Option Cause :=
  match s.jc.state with
  | .damaged c => some c
  | _ => none

/-- R171: READY. -/
def State.ready (s : State) : Bool :=
  !s.lines.halt &&
    match s.name with
    | .opened => true
    | .unguarded => true
    | .unformatted => true
    | .committing => true
    | .discarding => true
    | .anchorRead => false
    | .recovering => false
    | .rollingBack => false
    | .formatting => false
    | .clearing => false
    | .damaged => false

/-- R27: the anchor update in progress mark: a reclaim or unguard runs in OPEN. -/
def State.mark (s : State) : Bool := s.name == .opened && s.jc.room.isSome

/-- R43: the ring capacity. -/
def State.capacity (s : State) : Nat := ringCapacity s.jsize

/-- R43: the region's base byte address. -/
def State.base (s : State) : Nat := regionBase s.jbase

/-- R52: free. -/
def State.free (s : State) : Nat := s.capacity - s.jc.occupancy

/-- R3: the head is in progress: it has raised its first memory-port claim. -/
def State.inProgress (s : State) : Bool :=
  (match s.front.phase with
    | .waiting => false
    | .performing _ => true) ||
  (match s.save with
    | .idle => false
    | .room _ _ => false
    | .read _ _ => true
    | .record .. => true)

/-- R83, R120: no marked request remains in the queue. -/
def State.noneMarked (s : State) : Bool := s.front.queue.all fun e => !e.marked

end Sys2Proof.Machine
end

