-- ==== Sys2Proof/Machine/Layout.lean ====
section
/-! DEFINITION. The layouts of ring records and anchor slots (R187, R188), their check codes (R189), and what makes a record
valid at a slot (R50) and an anchor slot valid (R98). -/

namespace Sys2Proof.Machine

/-! ### CRC-32 (R189) -/

/-- One bit of the reflected CRC-32 with generator 0x04C11DB7. -/
def crcBit (c : Word) : Word := if c.getLsbD 0 then (c >>> 1) ^^^ 0xEDB88320 else c >>> 1

/-- One byte, least significant bit first. -/
def crcByte (c : Word) (b : Byte) : Word :=
  crcBit (crcBit (crcBit (crcBit (crcBit (crcBit (crcBit (crcBit (c ^^^ b.setWidth 32))))))))

/-- R189: the CRC register after more bytes. Each byte's result is taken up as a number, so that long strings can be evaluated
byte by byte; `crcFrom_eq_foldl` (Laws) says that this is the plain fold. -/
def crcFrom (c : Word) : List Byte → Word
  | [] => c
  | b :: bs =>
    match (crcByte c b).toNat with
    | 0 => crcFrom 0 bs
    | n + 1 => crcFrom (BitVec.ofNat 32 (n + 1)) bs

/-- R189: initial value and final exclusive-or 0xFFFFFFFF. -/
def crc32 (bytes : List Byte) : Word := crcFrom 0xFFFFFFFF bytes ^^^ 0xFFFFFFFF

/-- A flags byte with bit 0 and bit 1 (R187, R188). -/
def flagsByte (bit0 bit1 : Bool) : Byte := BitVec.ofNat 8 (bit0.toNat + 2 * bit1.toNat)

/-! ### Ring records (R187) -/

/-- R187: bytes 0 to 2: the kind code, 1 or 2, in bits 23..21 (units of 2,097,152), and the granule index below. -/
def RecordBody.kindBytes : RecordBody → List Byte
  | .preImage granule _ => leBytes 3 (2097152 + granule)
  | .commit _ => leBytes 3 4194304

/-- R187: bytes 16 to 47. -/
def RecordBody.bodyBytes : RecordBody → List Byte
  | .preImage _ payload => payload
  | .commit i =>
    leBytes 4 i.preImages ++ leBytes 4 i.writes.toNat ++ leBytes 4 i.stamp.toNat ++ [flagsByte i.broken i.changed] ++
      List.replicate 19 0

/-- R189: the check string of a record at slot s, from bytes 0 to 2, the full sequence number, bytes 6 to 11 and bytes 16 to
47. -/
def recordCheck (kind : List Byte) (seq : Word) (formatEpoch body : List Byte) (slot : Nat) : Word :=
  crc32 (kind ++ leBytes 4 seq.toNat ++ formatEpoch ++ body ++ leBytes 4 slot)

/-- R187: bytes 6 to 11, format number and epoch number. -/
def Record.formatEpoch (r : Record) : List Byte := leBytes 2 r.format.toNat ++ leBytes 4 r.epoch.toNat

/-- R49, R187: the 48 bytes of a record written to slot s. -/
def Record.encode (slot : Nat) (r : Record) : List Byte :=
  r.body.kindBytes ++ leBytes 3 r.seq.toNat ++ r.formatEpoch ++
    leBytes 4 (recordCheck r.body.kindBytes r.seq r.formatEpoch r.body.bodyBytes slot).toNat ++ r.body.bodyBytes

/-- R189: the sequence read: the 24 stored bits, with bits 31..24 of the expected sequence. -/
def sequenceRead (expected : Word) (bytes : List Byte) : Word :=
  BitVec.ofNat 32 (16777216 * (expected.toNat / 16777216) + leNat (fieldAt 3 3 bytes))

/-- R48, R187: the fields of a COMMIT record. -/
def commitInfoOf (bytes : List Byte) : CommitInfo :=
  { preImages := leNat (fieldAt 16 4 bytes)
    writes := leWord (fieldAt 20 4 bytes)
    stamp := leWord (fieldAt 24 4 bytes)
    broken := (bytes.getD 28 0).getLsbD 0
    changed := (bytes.getD 28 0).getLsbD 1 }

/-- R46, R187: what the kind field and the body say; none for a kind code that is neither 1 nor 2. -/
def recordBodyOf (bytes : List Byte) : Option RecordBody :=
  let kind := leNat (fieldAt 0 3 bytes)
  if kind / 2097152 = 1 then some (.preImage (kind % 2097152) (fieldAt 16 32 bytes))
  else if kind / 2097152 = 2 then some (.commit (commitInfoOf bytes))
  else none

/-- R49, R50 (1 and 2): the record read from slot s with expected sequence `expected`; none when its check does not pass or its
kind is neither. -/
def decodeRecord (slot : Nat) (expected : Word) (bytes : List Byte) : Option Record :=
  let seq := sequenceRead expected bytes
  if leWord (fieldAt 12 4 bytes) = recordCheck (fieldAt 0 3 bytes) seq (fieldAt 6 6 bytes) (fieldAt 16 32 bytes) slot then
    (recordBodyOf bytes).map fun body =>
      { format := leHalf (fieldAt 6 2 bytes), epoch := leWord (fieldAt 8 4 bytes), seq := seq, body := body }
  else none

/-- R50: the record when it is valid at the slot for format number f, expected sequence q and the epochs lo to hi. -/
def validRecord (slot : Nat) (f : Half) (q lo hi : Word) (bytes : List Byte) : Option Record :=
  match decodeRecord slot q bytes with
  | none => none
  | some r => if r.format = f ∧ r.seq = q ∧ lo ≤ r.epoch ∧ r.epoch ≤ hi then some r else none

/-- R110, R187: the scrub image, 48 bytes of 0xFF. -/
def scrubImage : List Byte := List.replicate 48 0xFF

/-! ### Anchor slots (R188) -/

/-- R188: a window entry. -/
def windowBytes : Option Window → List Byte
  | none => leBytes 4 0 ++ leBytes 4 0
  | some w =>
    leBytes 4 w.base ++ leBytes 4 (w.length + match w.mode with | .journaled => 0 | .frozen => 2147483648)

/-- R188: a window entry read back; the second word 0 is an empty slot. -/
def windowOf (bytes : List Byte) : Option Window :=
  let second := leNat (fieldAt 4 4 bytes)
  if second = 0 then none
  else some
    { base := leNat (fieldAt 0 4 bytes)
      length := second % 2147483648
      mode := if second / 2147483648 = 0 then .journaled else .frozen }

/-- R188: a directory entry's 20 bytes. -/
def dirEntryBytes (d : DirEntry) : List Byte :=
  leBytes 4 d.number.toNat ++ leBytes 3 d.firstSlot ++ leBytes 3 d.slots ++ leBytes 4 d.writes.toNat ++
    leBytes 4 d.stamp.toNat ++ [flagsByte d.broken false, 0]

/-- R188: a directory entry read back; the pre-image count is the slot count minus 1. -/
def dirEntryOf (bytes : List Byte) : DirEntry :=
  { number := leWord (fieldAt 0 4 bytes)
    firstSlot := leNat (fieldAt 4 3 bytes)
    slots := leNat (fieldAt 7 3 bytes)
    preImages := leNat (fieldAt 7 3 bytes) - 1
    writes := leWord (fieldAt 10 4 bytes)
    stamp := leWord (fieldAt 14 4 bytes)
    broken := (bytes.getD 18 0).getLsbD 0 }

/-- R188: bytes 0 to 507 of an anchor slot. -/
def Anchor.content (a : Anchor) : List Byte :=
  leBytes 4 a.seq.toNat ++ leBytes 2 a.format.toNat ++ [a.jsize, BitVec.ofNat 8 a.directory.length] ++
    a.table.flatMap windowBytes ++
    (a.directory.flatMap dirEntryBytes ++ List.replicate (300 - 20 * a.directory.length) 0) ++
    leBytes 4 a.openNumber.toNat ++ leBytes 4 a.openFirstSlot ++ leBytes 4 a.openFirstSeq.toNat ++
    leBytes 4 a.tail ++ leBytes 4 a.occupancy ++ leBytes 4 (a.intent.getD 0).toNat ++
    [flagsByte a.openBroken false, a.jbase] ++ List.replicate 110 0

/-- R189: the check code of bytes 0 to 507 for anchor slot t. -/
def anchorCheck (content : List Byte) (t : AnchorSlot) : Word := crc32 (content ++ leBytes 4 t.number)

/-- R188: the 512 bytes of an anchor for slot t. -/
def Anchor.encode (t : AnchorSlot) (a : Anchor) : List Byte :=
  a.content ++ leBytes 4 (anchorCheck a.content t).toNat

/-- R97, R188: the fields of an anchor slot's bytes. -/
def anchorOf (bytes : List Byte) : Anchor :=
  { seq := leWord (fieldAt 0 4 bytes)
    format := leHalf (fieldAt 4 2 bytes)
    jsize := bytes.getD 6 0
    jbase := bytes.getD 397 0
    table := (List.range 8).map fun i => windowOf (fieldAt (8 + 8 * i) 8 bytes)
    directory := (List.range (bytes.getD 7 0).toNat).map fun i => dirEntryOf (fieldAt (72 + 20 * i) 20 bytes)
    openNumber := leWord (fieldAt 372 4 bytes)
    openFirstSlot := leNat (fieldAt 376 4 bytes)
    openFirstSeq := leWord (fieldAt 380 4 bytes)
    openBroken := (bytes.getD 396 0).getLsbD 0
    tail := leNat (fieldAt 384 4 bytes)
    occupancy := leNat (fieldAt 388 4 bytes)
    intent := let c := leWord (fieldAt 392 4 bytes); if c = 0 then none else some c }

/-- R98: the anchor that slot t's 512 bytes hold when the slot is valid under the sampled straps. -/
def validAnchor (t : AnchorSlot) (jbase : BitVec 4) (jsize : BitVec 3) (bytes : List Byte) : Option Anchor :=
  if leWord (fieldAt 508 4 bytes) = anchorCheck (fieldAt 0 508 bytes) t ∧
      bytes.getD 6 0 = jsize.setWidth 8 ∧ bytes.getD 397 0 = jbase.setWidth 8 ∧
      leHalf (fieldAt 4 2 bytes) ≠ 0 ∧ (bytes.getD 7 0).toNat ≤ 15 then
    some (anchorOf bytes)
  else none

/-- R99: the newest valid anchor of the two slots, with its slot. -/
def newestAnchor (a0 a1 : Option Anchor) : Option (AnchorSlot × Anchor) :=
  match a0, a1 with
  | none, none => none
  | some a, none => some (.slot0, a)
  | none, some b => some (.slot1, b)
  | some a, some b =>
    if b.seq = a.seq + 1 then some (.slot1, b)
    else if a.seq = b.seq + 1 then some (.slot0, a)
    else if a.seq < b.seq then some (.slot1, b)
    else some (.slot0, a)

/-- R189: the check code the invalidation image stores: the smallest of 0, 1 and 2 that passes for neither slot. -/
def invalidCheck (c0 c1 : Word) : Word :=
  if (0 : Word) ≠ c0 ∧ (0 : Word) ≠ c1 then 0 else if (1 : Word) ≠ c0 ∧ (1 : Word) ≠ c1 then 1 else 2

/-- R110, R189: the invalidation image, 512 bytes. -/
def invalidationImage : List Byte :=
  let zeros : List Byte := List.replicate 508 0
  zeros ++ leBytes 4 (invalidCheck (anchorCheck zeros .slot0) (anchorCheck zeros .slot1)).toNat

end Sys2Proof.Machine
end

