-- ==== Sys2Proof/Machine/Ops.lean ====
section
/-! DEFINITION. The operations that the blocks share: answering the head, raising its first claim, marking the queue, the ring and
directory moves of R53, opening an epoch, the timer, asking for an anchor update, entering DAMAGED, ending a long operation and
a report, taking a commit or a rollback, and the offers of the latches. -/

namespace Sys2Proof.Machine

/-! ### The request queue -/

/-- R4: the data of a response: what memory gave for a read answered OKAY, all ones for another read, none for a write. -/
def responseData (r : Request) (st : Status) (data : List Byte) : List Byte :=
  match st with
  | .okay => data.take r.returnSize
  | _ => List.replicate r.returnSize 0xFF

/-- R3: the head's response is returned, the entry is removed, the hold timer stops and a save for it ends. -/
def State.respond (st : Status) (data : List Byte) (s : State) : State :=
  match s.front.queue with
  | [] => s
  | e :: rest =>
    { s with
      front.queue := rest
      front.phase := .waiting
      front.holdTimer := none
      front.holdReason := none
      front.responses := s.front.responses ++ [{ status := st, data := responseData e.req st data }]
      save := .idle }

/-- R3, R17: the head raises its first memory-port claim: it is in progress and the hold timer stops. -/
def State.claimFirst (t : Request) (phase : FrontPhase) (save : Save) (s : State) : State :=
  { s with
    front.phase := phase
    front.holdTimer := none
    front.holdReason := none
    save := save
    port.reqClaim := some t }

/-- R9, R12, R70: the head is performed with one transaction of its own kind; `counts` for a journaled write. -/
def State.perform (counts : Bool) (s : State) : State :=
  match s.front.queue with
  | [] => s
  | e :: _ => s.claimFirst e.req.aligned (.performing counts) .idle

/-- R17, R19: the head begins to wait for a hold reason; the timer starts if it is idle and the limit is not 0. -/
def State.beginWait (r : HoldReason) (s : State) : State :=
  { s with
    front.holdReason := some r
    front.holdTimer :=
      if s.front.holdTimer.isNone && s.link.policies.holdLimit != 0 then some s.link.policies.holdLimit
      else s.front.holdTimer }

/-- R14, R15: every request in the queue is marked. -/
def markAll (q : List Entry) : List Entry := q.map fun e => { e with marked := true }

/-- R14, R15: the marks are removed. -/
def unmarkAll (q : List Entry) : List Entry := q.map fun e => { e with marked := false }

/-- The marks of the queue are removed. -/
def State.unmark (s : State) : State := { s with front.queue := unmarkAll s.front.queue }

/-! ### The open epoch, the ring and the directory -/

/-- R34: the write count rises by 1 and stays at its highest value. -/
def OpenEpoch.countWrite (e : OpenEpoch) : OpenEpoch :=
  { e with writes := if e.writes = 0xFFFFFFFF then e.writes else e.writes + 1 }

/-- R34: a journaled write was performed. -/
def State.countWrite (s : State) : State := { s with jc.epoch := s.jc.epoch.map OpenEpoch.countWrite }

/-- R53: a record write was answered OKAY. -/
def State.recordAdded (s : State) : State :=
  { s with
    jc.head := slotAfter s.capacity s.jc.head
    jc.occupancy := s.jc.occupancy + 1
    jc.nextSeq := s.jc.nextSeq + 1 }

/-- The slot counts of directory entries together. -/
def slotTotal (ds : List DirEntry) : Nat := (ds.map DirEntry.slots).sum

/-- R53: the oldest directory entry is dropped from the front. -/
def State.dropOldest (s : State) : State :=
  match s.jc.directory with
  | [] => s
  | d :: ds =>
    { s with
      jc.directory := ds
      jc.tail := (s.jc.tail + d.slots) % s.capacity
      jc.occupancy := s.jc.occupancy - d.slots }

/-- R114, R145: the directory is emptied, tail set to head, occupancy to 0. -/
def State.emptyRing (s : State) : State :=
  { s with jc.directory := [], jc.tail := s.jc.head, jc.occupancy := 0 }

/-- R31: the number after n, none for the last epoch number. -/
def epochAfter (n : Word) : Option Word := if n = 0xFFFFFFFF then none else some (n + 1)

/-- R32: epoch m opens at head. -/
def State.openEpoch (m : Word) (broken : Bool) (s : State) : State :=
  { s with
    jc.epoch := some
      { number := m
        firstSlot := s.jc.head
        firstSeq := s.jc.nextSeq
        preImages := 0
        writes := 0
        broken := broken
        generation := generationOf m.toNat } }

/-- R38: the retire sweep that starts when the operation that opened epoch m completes. -/
def State.startRetire (m : Word) (s : State) : State := { s with tags := s.tags.startRetire (generationOf (m.toNat + 1)) }

/-- R39: a full clear starts. -/
def State.startClear (s : State) : State := { s with tags := s.tags.startClear }

/-- The number of the open epoch, 0 when the record is absent (R191). -/
def State.openNumber (s : State) : Word := (s.jc.epoch.map OpenEpoch.number).getD 0

/-- Whether the open epoch is broken (R33). -/
def State.openBroken (s : State) : Bool := (s.jc.epoch.map OpenEpoch.broken).getD false

/-! ### The auto-commit timer (R79) -/

/-- R79: the timer is started with the interval in force. -/
def State.startTimer (s : State) : State :=
  { s with
    jc.timer :=
      if s.link.policies.autoCommit = 0 then .idle
      else if s.lines.halt then .paused s.link.policies.autoCommit
      else .running s.link.policies.autoCommit }

/-- R79: a RUNNING timer becomes PAUSED. -/
def AutoTimer.pause : AutoTimer → AutoTimer
  | .idle => .idle
  | .running ms => .paused ms
  | .paused ms => .paused ms

/-- R79: a PAUSED timer becomes RUNNING. -/
def AutoTimer.resume : AutoTimer → AutoTimer
  | .idle => .idle
  | .running ms => .running ms
  | .paused ms => .running ms

/-! ### Anchor updates (R100) -/

/-- R97, R100: an anchor built from the volatile state, with no intent. -/
def State.image (s : State) : Anchor :=
  { seq := 0
    format := s.anchor.format
    jsize := s.jsize.setWidth 8
    jbase := s.jbase.setWidth 8
    table := s.windows.committed
    directory := s.jc.directory
    openNumber := s.openNumber
    openFirstSlot := (s.jc.epoch.map OpenEpoch.firstSlot).getD 0
    openFirstSeq := (s.jc.epoch.map OpenEpoch.firstSeq).getD 0
    openBroken := s.openBroken
    tail := s.jc.tail
    occupancy := s.jc.occupancy
    intent := none }

/-- R100: the slot that is not the newest. With no newest slot, which no update of R103 meets (R102), slot 0 (log 32). -/
def State.targetSlot (s : State) : AnchorSlot :=
  match s.anchor.newest with
  | none => .slot0
  | some n => n.slot.other

/-- R100: the newest slot sequence plus 1; 1 with no newest slot (log 32). -/
def State.targetSeq (s : State) : Word :=
  match s.anchor.newest with
  | none => 1
  | some n => n.seq + 1

/-- R100: an anchor update is asked for: target slot, target sequence and image are fixed, and the 16 writes are to be made. -/
def State.startUpdate (r : Requester) (image : Anchor) (s : State) : State :=
  let a := { image with seq := s.targetSeq }
  { s with
    anchor.active := some { target := s.targetSlot, seq := s.targetSeq, image := a, requester := r }
    jc.work := some { owner := .update, todo := anchorWrites s.base s.targetSlot (a.encode s.targetSlot), got := [] } }

/-- The controller begins a transfer. -/
def State.startWork (o : Owner) (todo : List Request) (s : State) : State :=
  { s with jc.work := some { owner := o, todo := todo, got := [] } }

/-! ### Long operations and reports -/

/-- R180: the long operation that runs and was started by a command, if one does. -/
def Ctl.longOp : Ctl → Option LongOp
  | .committing c => if c.byCommand then some .commit else none
  | .rollingBack c => if c.cause = .command then some .rollback else none
  | .discarding _ => some .discard
  | .formatting _ => some .format
  | .clearing _ => some .clearDamage
  | .anchorRead => none
  | .unformatted => none
  | .recovering _ => none
  | .opened => none
  | .unguarded => none
  | .damaged _ => none

/-- R180: at an operation's end its result is written, and the last long operation with it. -/
def State.endLong (r : LongResult) (s : State) : State :=
  match s.jc.state.longOp with
  | none => s
  | some op => { s with link.lastOp := some op, link.lastResult := r }

/-- R132: a report begins and replaces the one held before. -/
def State.beginReport (cause : ReportCause) (target : Option Word) (n start : Word) (s : State) : State :=
  { s with
    events.report := some
      { cause := cause, target := target, openAtStart := n, replayed := 0, start := start, finish := none, outcome := none } }

/-- R132: the report's end stamp and outcome are set. -/
def State.endReport (o : ReportOutcome) (s : State) : State :=
  { s with events.report := s.events.report.map fun r => { r with finish := some s.stamp, outcome := some o } }

/-- R28, R79: the controller enters DAMAGED: the event is raised, the timer becomes IDLE, marks are removed, a save in ROOM
ends, and nothing of the operation goes on. -/
def State.enterDamaged (c : Cause) (s : State) : State :=
  ({ s with
      jc.state := .damaged c
      jc.timer := .idle
      jc.room := none
      jc.work := none
      anchor.active := none
      save := match s.save with
        | .room _ _ => .idle
        | v => v
      front.queue := unmarkAll s.front.queue }).raise .damaged

/-! ### Taking a commit or a rollback -/

/-- R25: the copy of the staged table and flag. -/
def WindowUnit.copy (w : WindowUnit) : TableCopy := { table := w.staged, differs := w.stagedDiffers }

/-- R25, R147: an operation's copy becomes the committed table, the flag is worked out again, and the window change lost mark is
cleared when the copy differed. -/
def State.applyCopy (c : TableCopy) (s : State) : State :=
  { s with windows := s.windows.apply c.table, jc.windowLost := s.jc.windowLost && !c.differs }

/-- R82: a commit is taken. -/
def State.takeCommit (byCommand : Bool) (s : State) : State :=
  { s with
    jc.state := .committing { copy := s.windows.copy, byCommand := byCommand, dropped := false, step := .drain }
    jc.timer := .idle
    front.queue := markAll s.front.queue }

/-- R119: a command or line rollback to target c is taken. -/
def State.takeRollback (c : Word) (cause : ReportCause) (s : State) : State :=
  { s with
    jc.state := .rollingBack
      { target := c, openNumber := s.openNumber, cause := cause, start := s.stamp, step := .drain }
    jc.timer := .idle
    front.queue := markAll s.front.queue }

/-- R78: the conditions under which a commit request is taken. -/
def State.canCommit (s : State) : Bool :=
  (s.name == .opened || s.name == .unguarded) && !s.mark && !s.lines.halt

/-- R116: the conditions under which a FALLBACK request is taken. -/
def State.canFallback (s : State) : Bool := s.name == .opened && !s.mark && !s.lines.halt

/-- R116: the states in which a FALLBACK request is discarded, with or without halt. -/
def State.dropsFallback (s : State) : Bool :=
  s.name == .unguarded || s.name == .rollingBack || s.name == .unformatted || s.name == .damaged

/-- A free value is drawn (log 14, 15). -/
def State.drawn (s : State) : State := { s with freeIndex := s.freeIndex + 1 }

/-! ### The offers of the latches -/

/-- R78: a latched CKPT request is taken when the conditions hold. -/
def State.offerCkpt (s : State) : Option State :=
  if s.lines.ckptLatch && s.canCommit then
    let s' : State := { s with lines.ckptLatch := false }
    some (s'.takeCommit false)
  else none

/-- R117: a latched FALLBACK request is taken, or discarded with LINE_DISCARDED. -/
def State.offerFallback (s : State) : Option State :=
  let s' : State := { s with lines.fallbackLatch := false }
  if s.lines.fallbackLatch then
    if s.canFallback then some (s'.takeRollback s.openNumber .fallbackLine)
    else if s.dropsFallback then some (s'.raise .lineDiscarded)
    else none
  else none

/-- Two steps that may come in either order: a free value says which is first when both can be made. -/
def eitherFirst (first : Bool) (s : State) (a b : State → Option State) : Option State :=
  match a s, b s with
  | none, none => none
  | some t, none => some t
  | none, some t => some t
  | some _, some _ => if first then a s.drawn else b s.drawn

/-- R93, R117: the offers; both latches full, either may be taken first (log 15). -/
def State.offerStep (s : State) : Option State :=
  eitherFirst (Config.ckptFirst s.freeIndex) s State.offerCkpt State.offerFallback

/-- R86, R123: both latches are offered, before anything else comes about on the event. -/
def State.offerLatches (s : State) : State :=
  match s.offerStep with
  | none => s
  | some t => t.offerStep.getD t

end Sys2Proof.Machine
end

