-- ==== Sys2Proof/Machine/Front.lean ====
section
/-! DEFINITION. The head of the request queue: what is done with it in each state (R5 to R16), the start of a save (R64, R65), the
request for room (R55, R57, R60), and the acceptance of a presented request (R2). -/

namespace Sys2Proof.Machine

/-- What is done with a waiting head: it is answered (`refusal` raises REFUSED), it is performed (`counts` for a journaled
write), it waits for a hold reason, or it goes to the save unit. -/
inductive HeadAction where
  | answer (st : Status) (refusal : Bool)
  | perform (counts : Bool)
  | wait (r : HoldReason)
  | save
  deriving DecidableEq, Repr

/-- R12, R58, R60, R61: a journaled write of a broken epoch is performed with no save. It waits while the update of an unguard made
for an earlier head that was given up still runs: no write passes unjournaled before that update has completed. -/
def State.unguardedWrite (s : State) : HeadAction :=
  if s.jc.room.isSome then .wait .room else .perform true

/-- R12, R14, R58, R64: a journaled write handled by the open epoch's guard condition. It waits while a reclaim or unguard update
made for an earlier head still runs. -/
def State.guardedWrite (s : State) : HeadAction :=
  if s.jc.room.isSome then .wait .room
  else if s.openBroken then .perform true
  else .save

/-- R12 to R16: a journaled head, by controller state and mark. -/
def State.journaledAction (s : State) (write marked : Bool) : HeadAction :=
  match s.jc.state with
  | .anchorRead => .wait .anchorRead
  | .unformatted => .perform false
  | .recovering _ => .wait .recovering
  | .opened => if write then s.guardedWrite else .perform false
  | .unguarded => if write then s.unguardedWrite else .perform false
  | .committing _ =>
    if marked then (if write then s.guardedWrite else .perform false) else .wait .commitPoint
  | .rollingBack _ =>
    if marked then (if write then s.guardedWrite else .perform false) else .wait .rollingBack
  | .discarding c =>
    if write then (if c.fromUnguarded then s.unguardedWrite else .save) else .perform false
  | .formatting _ => .wait .formatting
  | .clearing _ => .wait .clearing
  | .damaged _ => if write then .answer .damaged false else .perform false

/-- R9 to R13: a head by its class. -/
def State.classAction (s : State) (e : Entry) : HeadAction :=
  match classOf s.jbase s.jsize s.windows.committed e.req.granule with
  | .journalRegion => .answer .refused e.req.isWrite
  | .plain => .perform false
  | .frozen => if e.req.isWrite then .answer .refused true else .perform false
  | .journaled => s.journaledAction e.req.isWrite e.marked

/-- The table at the end of section 1.3, with halt (R168) and the empty-mask write (R5) first. -/
def State.headAction (s : State) (e : Entry) : HeadAction :=
  if s.lines.halt then .answer .halted false
  else if e.req.emptyMask then .answer .okay false
  else
    match s.name with
    | .anchorRead => .wait .anchorRead
    | .committing => if e.marked then s.classAction e else .wait .commitPoint
    | .unformatted => s.classAction e
    | .recovering => s.classAction e
    | .opened => s.classAction e
    | .unguarded => s.classAction e
    | .rollingBack => s.classAction e
    | .discarding => s.classAction e
    | .formatting => s.classAction e
    | .clearing => s.classAction e
    | .damaged => s.classAction e

/-- The generation field of the open-epoch record (R37). -/
def State.openGeneration (s : State) : Gen := (s.jc.epoch.map OpenEpoch.generation).getD 0

/-- R65, R66: the granule read of a save is claimed. -/
def State.claimSaveRead (g t : Nat) (s : State) : State :=
  s.claimFirst (.granuleRead (byteAddr (g * 32))) .waiting (.read g t)

/-- R58, R121: whether a reclaim may remove the oldest entry: in ROLLING_BACK only entries below the target. -/
def State.canReclaim (s : State) : Bool :=
  match s.jc.directory with
  | [] => false
  | d :: _ =>
    match s.jc.state with
    | .rollingBack c => decide (d.number < c.target)
    | _ => true

/-- R57: one reclaim step: the oldest entry is dropped and an anchor update asked for. -/
def State.reclaimStep (s : State) : State :=
  let d := s.dropOldest
  let s' : State := { d with jc.room := some .reclaim }
  s'.startUpdate .reclaim s'.image

/-- R60: an unguard: the open epoch is marked broken and an anchor update asked for. -/
def State.unguardStep (s : State) : State :=
  let s' : State :=
    { s with
      jc.epoch := s.jc.epoch.map fun e => { e with broken := true }
      jc.room := some .unguard }
  s'.startUpdate .unguard s'.image

/-- R55: the save unit asks for room; the policy is read now (R59). -/
def State.askRoom (s : State) : State :=
  if s.link.policies.reclaim && s.canReclaim then s.reclaimStep else s.unguardStep

/-- R65: what a save in ROOM does next, if anything. -/
def State.roomStep (g t : Nat) (s : State) : Option State :=
  match s.name with
  | .discarding => none
  | .opened =>
    if s.jc.room.isSome then none else if 2 ≤ s.free then some (s.claimSaveRead g t) else some s.askRoom
  | .committing =>
    if s.jc.room.isSome then none else if 2 ≤ s.free then some (s.claimSaveRead g t) else some s.askRoom
  | .rollingBack =>
    if s.jc.room.isSome then none else if 2 ≤ s.free then some (s.claimSaveRead g t) else some s.askRoom
  | .anchorRead => some { s with save := .idle }
  | .unformatted => some { s with save := .idle }
  | .recovering => some { s with save := .idle }
  | .unguarded => some { s with save := .idle }
  | .formatting => some { s with save := .idle }
  | .clearing => some { s with save := .idle }
  | .damaged => some { s with save := .idle }

/-- R17, R65: a save whose free test failed enters ROOM, and its head begins to wait. -/
def State.enterRoom (g t : Nat) (s : State) : State := { s.beginWait .room with save := .room g t }

/-- R64, R65: a write goes to the save unit: the tag test, then the free test, which claims the granule read or enters ROOM and asks
for room, all in one examination. In DISCARDING nothing is asked for. -/
def State.beginSave (e : Entry) (s : State) : State :=
  let g := e.req.granule
  let t := tagEntry s.windows.committed g
  if s.tags.store.read t = s.openGeneration then s.perform true
  else if 2 ≤ s.free then s.claimSaveRead g t
  else ((s.enterRoom g t).roomStep g t).getD (s.enterRoom g t)

/-- What `headAction` says is done. A head that already waits for the reason changes nothing. -/
def State.act (a : HeadAction) (e : Entry) (s : State) : Option State :=
  match a with
  | .answer st refusal => some ((s.respond st []).raiseIf refusal .refused)
  | .perform counts => some (s.perform counts)
  | .wait r => if s.front.holdReason = some r then none else some (s.beginWait r)
  | .save => some (s.beginSave e)

/-- R13: one examination of the head; none when nothing changes. A head in ROOM under halt is answered HALTED (R75). -/
def State.headStep (s : State) : Option State :=
  if s.inProgress then none
  else
    match s.front.queue with
    | [] => none
    | e :: _ =>
      if s.lines.halt then s.act (.answer .halted false) e
      else
        match s.save with
        | .room g t => s.roomStep g t
        | .idle => s.act (s.headAction e) e
        | .read _ _ => none
        | .record .. => none

/-- R13: the waiting head is examined once, a save's request for room (R65) included. -/
def State.examineHead (s : State) : State :=
  match s.headStep with
  | none => s
  | some t => t

/-- R2: a presented request is accepted, unmarked, behind every request queued; none when there is none or the queue holds 4. -/
def State.acceptStep (s : State) : Option State :=
  match s.front.presented with
  | [] => none
  | r :: rest =>
    if s.front.queue.length < 4 then
      some { s with front.presented := rest, front.queue := s.front.queue ++ [{ req := r, marked := false }] }
    else none

end Sys2Proof.Machine
end

