-- ==== Sys2Proof/Machine/Commit.lean ====
section
/-! DEFINITION. The steps of a commit: record, directory entry and drops, opening, anchor update (R84 to R93). -/

namespace Sys2Proof.Machine

/-- R84: the fields of epoch n's COMMIT record. -/
def commitInfo (e : OpenEpoch) (stamp : Word) (changed : Bool) : CommitInfo :=
  { preImages := e.preImages, writes := e.writes, stamp := stamp, broken := e.broken, changed := changed }

/-- R84: the five writes of the COMMIT record built with `info`, for the slot at head, are to be made. The format number, the
epoch, the next sequence number and head stand still from the record's building to its writing: no head is in progress. -/
def State.writeCommitRecord (info : CommitInfo) (s : State) : State :=
  let r : Record := { format := s.anchor.format, epoch := s.openNumber, seq := s.jc.nextSeq, body := .commit info }
  s.startWork .commitRecord (recordWrites s.base s.jc.head (r.encode s.jc.head))

/-- R83, R84: the COMMIT record is built, once, with the stamp of this event. Its writes follow at once, or, while a reclaim or
unguard update made for a request given up is still being written, when that update has ended (R100, R156, log 19). -/
def State.beginCommitRecord (c : CommitCtx) (s : State) : State :=
  match s.jc.epoch with
  | none => s
  | some e =>
    let info := commitInfo e s.stamp c.copy.differs
    let s' : State := { s with jc.state := .committing { c with step := .record info } }
    if s.jc.room.isNone then s'.writeCommitRecord info else s'

/-- R87: the directory entry of the epoch closed. -/
def entryOf (e : OpenEpoch) (i : CommitInfo) : DirEntry :=
  { number := e.number
    firstSlot := e.firstSlot
    slots := i.preImages + 1
    preImages := i.preImages
    writes := i.writes
    stamp := i.stamp
    broken := i.broken }

/-- R87: the closed epoch's entry is appended. -/
def State.appendEntry (d : DirEntry) (s : State) : State := { s with jc.directory := s.jc.directory ++ [d] }

/-- R88, R146 (2): the overflow drop of a 16th entry. -/
def State.overflowDrop (s : State) : State := if 15 < s.jc.directory.length then s.dropOldest else s

/-- R89, R146 (3): the forced drop when free is 0. -/
def State.forcedDrop (s : State) : State := if s.free = 0 then s.dropOldest else s

/-- R87 to R89, R146: the directory steps. -/
def State.closeEpoch (d : DirEntry) (s : State) : State := ((s.appendEntry d).overflowDrop).forcedDrop

/-- R88, R89: whether the directory steps drop an entry. -/
def State.closeDrops (d : DirEntry) (s : State) : Bool :=
  let s1 := s.appendEntry d
  decide (15 < s1.jc.directory.length) || decide (s1.overflowDrop.free = 0)

/-- R85, R87 to R90: the commit record is complete; the directory steps follow, and the full clear starts when the windows
change. -/
def State.commitRecordDone (c : CommitCtx) (info : CommitInfo) (s : State) : State :=
  match s.jc.epoch with
  | none => s
  | some e =>
    let s1 := s.recordAdded
    let d := entryOf e info
    let s2 := s1.closeEpoch d
    let s3 : State :=
      { s2 with jc.state := .committing { c with dropped := s1.closeDrops d, step := .tagWait } }
    if c.copy.differs then s3.startClear else s3

/-- R86: the commit record's write failed. The latches are offered on the return, and then the head is handled. -/
def State.commitRecordFailed (s : State) : State :=
  let s1 := (s.endLong .failed).raise .sealFailed
  let s2 : State :=
    { s1 with
      jc.state := if s1.openBroken then .unguarded else .opened
      jc.work := none
      front.queue := unmarkAll s1.front.queue }
  s2.startTimer.offerLatches

/-- R31, R91, R92: the commit's open, and its anchor update; or exhaustion, with the epoch closed and its record absent. -/
def State.commitOpen (c : CommitCtx) (s : State) : State :=
  match epochAfter s.openNumber with
  | none =>
    let s1 := s.endLong .failed
    let s2 : State := { s1 with jc.epoch := none }
    s2.enterDamaged .exhausted
  | some m =>
    let s1 := s.openEpoch m false
    let s2 := if c.copy.differs then s1.applyCopy c.copy else s1
    let s3 : State := { s2 with jc.state := .committing { c with step := .anchor } }
    s3.startUpdate .commit s3.image

/-- R93: the commit completes. -/
def State.commitComplete (c : CommitCtx) (s : State) : State :=
  let s1 := (((s.endLong .done).raise .committed).raiseIf c.dropped .reclaimed).unmark
  let s2 : State := { s1 with jc.state := .opened }
  (s2.startRetire s2.openNumber).startTimer

/-- The steps of a commit that need no transaction: the record is built when no marked request remains (R83), the writes of a
record built while an update ran follow that update (log 19), the open is made when the tags allow it (R90). -/
def State.commitStep (c : CommitCtx) (s : State) : Option State :=
  match c.step with
  | .drain => if s.noneMarked && s.jc.epoch.isSome then some (s.beginCommitRecord c) else none
  | .record info => if s.jc.room.isNone && s.jc.work.isNone then some (s.writeCommitRecord info) else none
  | .tagWait => if s.tags.mayOpen (s.openNumber.toNat + 1) then some (s.commitOpen c) else none
  | .anchor => none

end Sys2Proof.Machine
end

