-- ==== Sys2Proof/Machine/Replay.lean ====
section
/-! DEFINITION. The replay that rollback and recovery share: its range, its walk, its failure, the truncation (R124 to R128). -/

namespace Sys2Proof.Machine

/-- The slots from the first slot of c to the slot before head: k of R124 and R144. They are those of the entries numbered c and
above and the open epoch's pre-images, and `commits` is 1 when a COMMIT record of the open epoch lies behind these: one that memory
stored although its write was answered ERROR, and that the scan counted (R51, R140, R141). -/
def State.replaySpan (c : Word) (commits : Nat) (s : State) : Nat :=
  slotTotal (s.jc.directory.filter fun d => c ≤ d.number) + (s.jc.epoch.map OpenEpoch.preImages).getD 0 + commits

/-- The first slot of epoch c: its entry's, or the open epoch's (R124). -/
def State.firstSlotOf (c : Word) (s : State) : Nat :=
  match s.jc.directory.find? fun d => d.number = c with
  | some d => d.firstSlot
  | none => (s.jc.epoch.map OpenEpoch.firstSlot).getD 0

/-- R124: the walk of a replay to c, from the slot before head. -/
def State.replayWalk (c : Word) (commits : Nat) (s : State) : Walk :=
  { slot := slotBefore s.capacity s.jc.head, left := s.replaySpan c commits, expected := s.jc.nextSeq - 1 }

/-- The walk of the replay in progress, if one is. -/
def Ctl.walk : Ctl → Option Walk
  | .rollingBack c => match c.step with
    | .replay w => some w
    | .drain => none
    | .intent => none
    | .tagWait => none
    | .anchor => none
  | .recovering c => match c.step with
    | .replay _ w => some w
    | .scan _ _ => none
    | .tagWait _ => none
    | .anchor _ => none
  | .anchorRead => none
  | .unformatted => none
  | .opened => none
  | .unguarded => none
  | .committing _ => none
  | .discarding _ => none
  | .formatting _ => none
  | .clearing _ => none
  | .damaged _ => none

/-- The controller state with another walk in its replay. -/
def Ctl.setWalk (w : Walk) : Ctl → Ctl
  | .rollingBack c => match c.step with
    | .replay _ => .rollingBack { c with step := .replay w }
    | .drain => .rollingBack c
    | .intent => .rollingBack c
    | .tagWait => .rollingBack c
    | .anchor => .rollingBack c
  | .recovering c => match c.step with
    | .replay k _ => .recovering { c with step := .replay k w }
    | .scan _ _ => .recovering c
    | .tagWait _ => .recovering c
    | .anchor _ => .recovering c
  | .anchorRead => .anchorRead
  | .unformatted => .unformatted
  | .opened => .opened
  | .unguarded => .unguarded
  | .committing c => .committing c
  | .discarding c => .discarding c
  | .formatting c => .formatting c
  | .clearing c => .clearing c
  | .damaged c => .damaged c

/-- R124, R144, R148: the target of the replay in progress; with the open epoch's number it bounds the epochs of its records. -/
def Ctl.replayTarget : Ctl → Word × Word
  | .rollingBack c => (c.target, c.openNumber)
  | .recovering c =>
    match c.step with
    | .replay .redo _ => (c.intent.getD c.openNumber, c.openNumber)
    | .replay .broken _ => (c.openNumber, c.openNumber)
    | .replay .forward _ => (c.openNumber, c.openNumber)
    | .replay .undo _ => (c.openNumber, c.openNumber)
    | .scan _ _ => (c.openNumber, c.openNumber)
    | .tagWait _ => (c.openNumber, c.openNumber)
    | .anchor _ => (c.openNumber, c.openNumber)
  | .anchorRead => (0, 0)
  | .unformatted => (0, 0)
  | .opened => (0, 0)
  | .unguarded => (0, 0)
  | .committing _ => (0, 0)
  | .discarding _ => (0, 0)
  | .formatting _ => (0, 0)
  | .clearing _ => (0, 0)
  | .damaged _ => (0, 0)

/-- R124: the record at the walk's slot is to be read, unless the walk is at its end. -/
def State.readWalk (w : Walk) (s : State) : State :=
  if w.left = 0 then s else s.startWork .replayRead (recordReads s.base w.slot)

/-- R124: the replay goes on to the next slot of its walk. -/
def State.advanceWalk (w : Walk) (s : State) : State :=
  let w' : Walk := { slot := slotBefore s.capacity w.slot, left := w.left - 1, expected := w.expected - 1 }
  let s' : State := { s with jc.state := s.jc.state.setWalk w' }
  s'.readWalk w'

/-- R126, R144: the replay fails. -/
def State.replayFailed (s : State) : State := ((s.endLong .failed).endReport .damaged).enterDamaged .replay

/-- R124, R125: a record of the range has been read. -/
def State.replayRecord (bytes : List Byte) (s : State) : State :=
  match s.jc.state.walk with
  | none => s
  | some w =>
    match validRecord w.slot s.anchor.format w.expected s.jc.state.replayTarget.1 s.jc.state.replayTarget.2 bytes with
    | none => s.replayFailed
    | some r =>
      match r.body with
      | .preImage g payload => s.startWork .replayWrite [.granuleWrite (byteAddr (g * 32)) payload]
      | .commit _ => s.advanceWalk w

/-- R125: a pre-image has been written back with OKAY. -/
def State.replayWritten (s : State) : State :=
  match s.jc.state.walk with
  | none => s
  | some w =>
    let s' : State := { s with events.report := s.events.report.map fun r => { r with replayed := r.replayed + 1 } }
    s'.advanceWalk w

/-- R128: the ring is truncated to the first slot of c. -/
def State.truncate (c : Word) (commits : Nat) (s : State) : State :=
  let k := s.replaySpan c commits
  { s with
    jc.head := s.firstSlotOf c
    jc.occupancy := s.jc.occupancy - k
    jc.nextSeq := s.jc.nextSeq - BitVec.ofNat 32 k
    jc.directory := s.jc.directory.filter fun d => d.number < c }

end Sys2Proof.Machine
end

