-- ==== Sys2Proof/Machine/Recovery.lean ====
section
/-! DEFINITION. Power-up recovery: the anchor read's judgement, the scan, the four courses, the end (R137 to R150). -/

namespace Sys2Proof.Machine

/-- R137: the 32 reads of the anchor slots are to be made. -/
def State.beginAnchorRead (s : State) : State := s.startWork .anchorRead (anchorReads s.base)

/-- R140: the record at a slot is to be read by the scan. -/
def State.scanRead (slot : Nat) (s : State) : State := s.startWork .scan (recordReads s.base slot)

/-- R139: the newest valid anchor is loaded, RECOVERING entered, the full clear and the scan started. -/
def State.loadAnchor (t : AnchorSlot) (a : Anchor) (s : State) : State :=
  let s1 : State :=
    { s with
      windows := { committed := a.table, staged := a.table, stagedDiffers := false }
      anchor := { active := none, newest := some { slot := t, seq := a.seq }, format := a.format }
      jc.directory := a.directory
      jc.epoch := some
        { number := a.openNumber
          firstSlot := a.openFirstSlot
          firstSeq := a.openFirstSeq
          preImages := 0
          writes := 0
          broken := a.openBroken
          generation := generationOf a.openNumber.toNat }
      jc.tail := a.tail
      jc.occupancy := a.occupancy
      jc.state := .recovering
        { intent := a.intent
          openNumber := a.openNumber
          start := s.stamp
          found := none
          dropped := false
          step := .scan 0 a.openFirstSlot } }
  s1.startClear.scanRead a.openFirstSlot

/-- R138, R139: the last read of the anchor read was answered OKAY. -/
def State.judgeAnchors (bytes : List Byte) (s : State) : State :=
  match newestAnchor (validAnchor .slot0 s.jbase s.jsize (bytes.take 512))
      (validAnchor .slot1 s.jbase s.jsize (bytes.drop 512)) with
  | none => { s with jc.state := .unformatted }
  | some (t, a) => s.loadAnchor t a

/-- R140: the directory part. -/
def State.directoryPart (s : State) : Nat := slotTotal s.jc.directory

/-- R141, R142: the ring pointers after the scan. -/
def State.scanPointers (count head : Nat) (s : State) : State :=
  { s with
    jc.head := head
    jc.nextSeq := (s.jc.epoch.map OpenEpoch.firstSeq).getD 0 + BitVec.ofNat 32 count
    jc.occupancy := s.directoryPart + count }

/-- R143: the course. -/
def RecoveryCtx.course (c : RecoveryCtx) (broken : Bool) : Course :=
  if c.intent.isSome then .redo
  else if broken && c.found.isNone then .broken
  else if c.found.isSome then .forward
  else .undo

/-- R143: the target a course's report names. -/
def RecoveryCtx.reportTarget (c : RecoveryCtx) : Course → Option Word
  | .redo => c.intent
  | .broken => none
  | .forward => none
  | .undo => some c.openNumber

/-- R140, R144: the COMMIT records of the open epoch that the scan counted: one when the commit-found mark is set, else none. -/
def RecoveryCtx.commits (c : RecoveryCtx) : Nat := c.found.isSome.toNat

/-- A course's replay of the epochs from `target` up is begun (R144, R148). -/
def State.beginRedo (c : RecoveryCtx) (k : Course) (target : Word) (s : State) : State :=
  let w := s.replayWalk target c.commits
  let s' : State := { s with jc.state := .recovering { c with step := .replay k w } }
  s'.readWalk w

/-- R144 to R146, R148: the steps of the course chosen. -/
def State.takeCourse (c : RecoveryCtx) (k : Course) (s : State) : State :=
  match k with
  | .redo => s.beginRedo c .redo (c.intent.getD c.openNumber)
  | .broken =>
    let s1 := s.emptyRing
    { s1 with jc.state := .recovering { c with step := .tagWait .broken } }
  | .forward =>
    match s.jc.epoch, c.found with
    | some e, some info =>
      let d := entryOf e info
      let s1 := s.closeEpoch d
      { s1 with jc.state := .recovering { c with dropped := s.closeDrops d, step := .tagWait .forward } }
    | none, some _ => { s with jc.state := .recovering { c with step := .tagWait .forward } }
    | some _, none => { s with jc.state := .recovering { c with step := .tagWait .forward } }
    | none, none => { s with jc.state := .recovering { c with step := .tagWait .forward } }
  | .undo => s.beginRedo c .undo c.openNumber

/-- R141, R143: the scan ends; the pointers are set, the course chosen and the report begun. -/
def State.endScan (c : RecoveryCtx) (count head : Nat) (s : State) : State :=
  let s1 := s.scanPointers count head
  let k := c.course s1.openBroken
  (s1.beginReport .recovery (c.reportTarget k) c.openNumber c.start).takeCourse c k

/-- R140: a record read by the scan is tested. -/
def State.scanRecord (c : RecoveryCtx) (count slot : Nat) (bytes : List Byte) (s : State) : State :=
  let q := (s.jc.epoch.map OpenEpoch.firstSeq).getD 0 + BitVec.ofNat 32 count
  let next := slotAfter s.capacity slot
  match validRecord slot s.anchor.format q c.openNumber c.openNumber bytes with
  | none => s.endScan c count slot
  | some r =>
    match r.body with
    | .commit info => s.endScan { c with found := some info } (count + 1) next
    | .preImage _ _ =>
      let s1 : State := { s with jc.epoch := s.jc.epoch.map fun e => { e with preImages := e.preImages + 1 } }
      if s.capacity ≤ s.directoryPart + (count + 1) then s1.endScan c (count + 1) next
      else
        let s2 : State := { s1 with jc.state := .recovering { c with step := .scan (count + 1) next } }
        s2.scanRead next

/-- R142: a read of the scan was answered ERROR. -/
def State.scanFailed (s : State) : State :=
  match s.jc.state with
  | .recovering c =>
    match c.step with
    | .scan count slot => (s.scanPointers count slot).enterDamaged .scan
    | .replay _ _ => s.enterDamaged .scan
    | .tagWait _ => s.enterDamaged .scan
    | .anchor _ => s.enterDamaged .scan
  | _ => s.enterDamaged .scan

/-- R149, R31: recovery opens the next epoch and asks for its anchor update; or exhaustion. -/
def State.recoveryOpen (c : RecoveryCtx) (k : Course) (s : State) : State :=
  match epochAfter c.openNumber with
  | none =>
    let s1 := s.endReport .damaged
    let s2 : State := { s1 with jc.epoch := if k = .forward then none else s1.jc.epoch }
    s2.enterDamaged .exhausted
  | some m =>
    let s1 := s.openEpoch m (k == .broken)
    let s2 : State := { s1 with jc.state := .recovering { c with step := .anchor k } }
    s2.startUpdate .recovery s2.image

/-- R150: the outcome a course's report ends with. -/
def Course.outcome : Course → ReportOutcome
  | .redo => .complete
  | .broken => .notSafe
  | .forward => .rolledForward
  | .undo => .complete

/-- R147: whether the roll-forward lost a window change. -/
def RecoveryCtx.changeLost (c : RecoveryCtx) (k : Course) : Bool :=
  k == .forward && (c.found.map CommitInfo.changed).getD false

/-- R150: recovery completes. The waiting head is examined before the latches are offered. -/
def State.recoveryComplete (c : RecoveryCtx) (k : Course) (s : State) : State :=
  let s1 :=
    (((s.endReport k.outcome).raise .recovered).raiseIf (k == .broken) .unguarded).raiseIf (k == .forward && c.dropped) .reclaimed
  let s2 : State :=
    { s1 with
      jc.state := if k = .broken then .unguarded else .opened
      jc.windowLost := s1.jc.windowLost || c.changeLost k }
  ((s2.startRetire s2.openNumber).startTimer).examineHead

/-- The steps of RECOVERING that need no transaction: the truncation after a replay (R144, R148), the open when the full clear
has ended (R149). -/
def State.recoveryStep (c : RecoveryCtx) (s : State) : Option State :=
  match c.step with
  | .scan _ _ => none
  | .replay k w =>
    if w.left = 0 then
      let s1 := s.truncate s.jc.state.replayTarget.1 c.commits
      some { s1 with jc.state := .recovering { c with step := .tagWait k } }
    else none
  | .tagWait k => if s.tags.done = .all then some (s.recoveryOpen c k) else none
  | .anchor _ => none

end Sys2Proof.Machine
end

