-- ==== Sys2Proof/Machine/Rollback.lean ====
section
/-! DEFINITION. The steps of a command or line rollback: draining, abandonment, intent, open, completion (R120 to R123, R129 to R131). -/

namespace Sys2Proof.Machine

/-- R121: the rollback is abandoned because the open epoch became broken; a command's result is UNSAFE. DESIGN CHOICE (log 19): the
result stays UNSAFE when the unguard's update, still being written then, ends with a memory error afterwards. -/
def State.rollbackAbandoned (s : State) : State :=
  let s1 := (s.endLong .notSafe).unmark
  let s2 : State := { s1 with jc.state := .unguarded }
  s2.startTimer

/-- R122: the intent update is asked for. -/
def State.askIntent (c : RollbackCtx) (s : State) : State :=
  let s' : State := { s with jc.state := .rollingBack { c with step := .intent } }
  s'.startUpdate .intent { s'.image with intent := some c.target }

/-- R122, R124, R132: the intent is durable: the report begins and the replay starts. -/
def State.intentDone (c : RollbackCtx) (s : State) : State :=
  let w := s.replayWalk c.target 0
  let s1 := s.beginReport c.cause (some c.target) c.openNumber c.start
  let s2 : State := { s1 with jc.state := .rollingBack { c with step := .replay w } }
  s2.readWalk w

/-- R123: the intent update failed: the rollback fails and the controller returns to OPEN. The latches are offered, and then the requests
that waited are handled. -/
def State.intentFailed (s : State) : State :=
  let s1 := (s.endLong .failed).unmark
  let s2 : State := { s1 with jc.state := .opened }
  s2.startTimer.offerLatches

/-- R129, R130, R31: the new epoch opens and the completion update is asked for; or exhaustion. -/
def State.rollbackOpen (c : RollbackCtx) (s : State) : State :=
  match epochAfter c.openNumber with
  | none => ((s.endLong .failed).endReport .damaged).enterDamaged .exhausted
  | some m =>
    let s1 := s.openEpoch m false
    let s2 : State := { s1 with jc.state := .rollingBack { c with step := .anchor } }
    s2.startUpdate .completion s2.image

/-- R131: the rollback completes; a latched CKPT request is discarded. -/
def State.rollbackComplete (s : State) : State :=
  let s1 := ((((s.endLong .done).endReport .complete).raise .rolledBack).raiseIf s.lines.ckptLatch .lineDiscarded).unmark
  let s2 : State := { s1 with jc.state := .opened, lines.ckptLatch := false }
  (s2.startRetire s2.openNumber).startTimer

/-- R121, R122: what a rollback does when no marked request is left. One whose epoch an unguard has broken is abandoned, even
while that unguard's update is still being written; else the intent update is asked for, after the update of a reclaim that was
made for a request given up (R100, log 19). -/
def State.rollbackDrained (c : RollbackCtx) (s : State) : Option State :=
  match s.jc.room with
  | none => some (if s.openBroken then s.rollbackAbandoned else s.askIntent c)
  | some .unguard => some s.rollbackAbandoned
  | some .reclaim => none

/-- The steps of a rollback that need no transaction. -/
def State.rollbackStep (c : RollbackCtx) (s : State) : Option State :=
  match c.step with
  | .drain =>
    if s.noneMarked then s.rollbackDrained c else none
  | .intent => none
  | .replay w =>
    if w.left = 0 then
      let s1 := s.truncate c.target 0
      some { s1 with jc.state := .rollingBack { c with step := .tagWait } }
    else none
  | .tagWait => if s.tags.mayOpen (c.openNumber.toNat + 1) then some (s.rollbackOpen c) else none
  | .anchor => none

end Sys2Proof.Machine
end

