-- ==== Sys2Proof/Machine/Anchors.lean ====
section
/-! DEFINITION. The operations on the anchor and the directory, DISCARD, FORMAT and CLEAR DAMAGE (R106 to R114), and the end of an
anchor update for each of its requesters (R101, R103). -/

namespace Sys2Proof.Machine

/-! ### DISCARD -/

/-- R107: the discard set: the entries numbered e or below. -/
def State.discardSet (e : Word) (s : State) : List DirEntry := s.jc.directory.filter fun d => d.number ≤ e

/-- R107: tail after the discard: the oldest remaining entry's first slot, or the open epoch's. -/
def State.discardTail (e : Word) (s : State) : Nat :=
  match s.jc.directory.drop (s.discardSet e).length with
  | d :: _ => d.firstSlot
  | [] => (s.jc.epoch.map OpenEpoch.firstSlot).getD 0

/-- R107: the discard's anchor update is asked for: directory, tail and occupancy without the discard set. -/
def State.askDiscard (c : DiscardCtx) (s : State) : State :=
  s.startUpdate .discard
    { s.image with
      directory := s.jc.directory.drop c.count, tail := c.newTail, occupancy := s.jc.occupancy - c.freed }

/-- R107: the discard set and what its removal leaves, remembered with the state the discard comes from. -/
def State.discardContext (e : Word) (s : State) : DiscardCtx :=
  let count := (s.discardSet e).length
  { fromUnguarded := s.name == .unguarded
    count := count
    newTail := s.discardTail e
    freed := slotTotal (s.jc.directory.take count) }

/-- R107: a discard is taken and its update asked for; in UNGUARDED with an unguard's update still being written, when that update
has ended (R100, log 19). -/
def State.takeDiscard (e : Word) (s : State) : State :=
  let c := s.discardContext e
  let s' : State := { s with jc.state := .discarding c, jc.timer := s.jc.timer.pause }
  if s.jc.room.isNone then s'.askDiscard c else s'

/-- The step of a discard that needs no transaction: the update that waited for an unguard's update (log 19). -/
def State.discardStep (c : DiscardCtx) (s : State) : Option State :=
  if s.jc.room.isNone && s.jc.work.isNone then some (s.askDiscard c) else none

/-- R108: the discard completes. -/
def State.discardComplete (c : DiscardCtx) (s : State) : State :=
  let s1 := s.endLong .done
  { s1 with
    jc.directory := s1.jc.directory.drop c.count
    jc.tail := c.newTail
    jc.occupancy := s1.jc.occupancy - c.freed
    jc.state := if c.fromUnguarded then .unguarded else .opened
    jc.timer := if s1.lines.halt then s1.jc.timer else s1.jc.timer.resume }

/-! ### FORMAT -/

/-- R109: the new format number. -/
def State.newFormat (s : State) : Half :=
  match s.anchor.newest with
  | none => 1
  | some _ => if s.anchor.format = 0xFFFF then 1 else s.anchor.format + 1

/-- R109: a format is taken; the damage cause goes, a save in ROOM ends (R65). -/
def State.takeFormat (s : State) : State :=
  { s with
    jc.state := .formatting { cameFrom := s.name, copy := s.windows.copy, number := s.newFormat, step := .headWait }
    jc.timer := .idle
    save := match s.save with
      | .room _ _ => .idle
      | v => v }

/-- The format goes on to a step with the transactions it needs. -/
def State.formatTo (c : FormatCtx) (step : FormatStep) (o : Owner) (todo : List Request) (s : State) : State :=
  let s' : State := { s with jc.state := .formatting { c with step := step } }
  s'.startWork o todo

/-- R110 (2): the scrub of a slot. -/
def State.scrubSlot (c : FormatCtx) (slot : Nat) (s : State) : State :=
  s.formatTo c (.scrub slot) .scrub (recordWrites s.base slot scrubImage)

/-- R110 (3): slot 1 is invalidated. -/
def State.invalidate1 (c : FormatCtx) (s : State) : State :=
  s.formatTo c .invalidate1 .invalidate1 (anchorWrites s.base .slot1 invalidationImage)

/-- R110 (3): the invalidation, slot 0 first when slot 1 is the newest. -/
def State.invalidate (c : FormatCtx) (s : State) : State :=
  if (s.anchor.newest.map Newest.slot) = some .slot1 then
    s.formatTo c .invalidate0 .invalidate0 (anchorWrites s.base .slot0 invalidationImage)
  else s.invalidate1 c

/-- R110 (4): the anchor of the new journal. -/
def State.formatAnchor (c : FormatCtx) (s : State) : Anchor :=
  { seq := 1
    format := c.number
    jsize := s.jsize.setWidth 8
    jbase := s.jbase.setWidth 8
    table := c.copy.table
    directory := []
    openNumber := 1
    openFirstSlot := 0
    openFirstSeq := 0
    openBroken := false
    tail := 0
    occupancy := 0
    intent := none }

/-- R110 (4): slot 0 is written. -/
def State.writeSlot0 (c : FormatCtx) (s : State) : State :=
  s.formatTo c .slot0 .slot0 (anchorWrites s.base .slot0 ((s.formatAnchor c).encode .slot0))

/-- R110 (2): whether the format scrubs the ring. -/
def FormatCtx.scrubs (c : FormatCtx) : Bool := c.cameFrom == .unformatted || c.number == 1

/-- R110 (2, 3): what follows the wait for the head. -/
def State.formatBegin (c : FormatCtx) (s : State) : State := if c.scrubs then s.scrubSlot c 0 else s.invalidate c

/-- R110: a slot's scrub is done. -/
def State.scrubDone (c : FormatCtx) (slot : Nat) (s : State) : State :=
  if slot + 1 < s.capacity then s.scrubSlot c (slot + 1) else s.invalidate c

/-- R111: slot 0 is complete: the anchor writer's and the controller's values are set together; the table is next. -/
def State.slot0Done (c : FormatCtx) (s : State) : State :=
  let s1 : State :=
    { s with
      anchor := { active := none, newest := some { slot := .slot0, seq := 1 }, format := c.number }
      jc.directory := []
      jc.tail := 0
      jc.head := 0
      jc.occupancy := 0
      jc.nextSeq := 0
      jc.room := none
      jc.state := .formatting { c with step := .apply } }
  s1.openEpoch 1 false

/-- R111, R8: the table takes effect once no head is in progress, and the full clear starts. -/
def State.formatApply (c : FormatCtx) (s : State) : State :=
  let s1 := (s.applyCopy c.copy).startClear
  { s1 with jc.state := .formatting { c with step := .clear } }

/-- R111: the format completes. -/
def State.formatComplete (s : State) : State :=
  let s1 := (s.endLong .done).raise .formatted
  let s2 : State := { s1 with jc.state := .opened }
  (s2.startRetire s2.openNumber).startTimer

/-- The steps of a format that need no transaction. Its first transfer also waits for the update of an unguard that was still being
written in UNGUARDED (R110, log 19). -/
def State.formatStep (c : FormatCtx) (s : State) : Option State :=
  match c.step with
  | .headWait => if s.inProgress || s.jc.room.isSome then none else some (s.formatBegin c)
  | .scrub _ => none
  | .invalidate0 => none
  | .invalidate1 => none
  | .slot0 => none
  | .apply => if s.inProgress then none else some (s.formatApply c)
  | .clear => if s.tags.done = .all then some s.formatComplete else none

/-! ### CLEAR DAMAGE -/

/-- R113: a clearing is taken; the damage cause goes. -/
def State.takeClearing (s : State) : State :=
  { s with jc.state := .clearing { copy := s.windows.copy, step := .headWait } }

/-- R114 (2, 3): the ring is emptied and the full clear started. -/
def State.clearingEmpty (c : ClearCtx) (s : State) : State :=
  let s1 := s.emptyRing.startClear
  { s1 with jc.state := .clearing { c with step := .clear } }

/-- R114 (4), R31: the next epoch opens; or exhaustion. -/
def State.clearingOpen (c : ClearCtx) (s : State) : State :=
  match epochAfter s.openNumber with
  | none => (s.endLong .failed).enterDamaged .exhausted
  | some m =>
    let s1 := s.openEpoch m false
    { s1 with jc.state := .clearing { c with step := .apply } }

/-- R114 (4, 5), R8: the table takes effect once no head is in progress, and the anchor update is asked for. -/
def State.clearingApply (c : ClearCtx) (s : State) : State :=
  let s1 := s.applyCopy c.copy
  let s2 : State := { s1 with jc.state := .clearing { c with step := .anchor } }
  s2.startUpdate .clearing s2.image

/-- R114: the clearing completes. -/
def State.clearingComplete (s : State) : State :=
  let s1 := s.endLong .done
  let s2 : State := { s1 with jc.state := .opened }
  (s2.startRetire s2.openNumber).startTimer

/-- The steps of a clearing that need no transaction. -/
def State.clearingStep (c : ClearCtx) (s : State) : Option State :=
  match c.step with
  | .headWait => if s.inProgress then none else some (s.clearingEmpty c)
  | .clear => if s.tags.done = .all then some (s.clearingOpen c) else none
  | .apply => if s.inProgress then none else some (s.clearingApply c)
  | .anchor => none

/-! ### The end of an anchor update (R101, R103) -/

/-- R57 (3, 4), R58: a reclaim step's update completed. Another step is made only for a save still in ROOM with free below 2;
when no entry may be reclaimed, an unguard follows in its place. -/
def State.reclaimDone (s : State) : State :=
  let s1 := s.raise .reclaimed
  match s1.save with
  | .room _ _ =>
    if 2 ≤ s1.free then { s1 with jc.room := none }
    else if s1.canReclaim then s1.reclaimStep
    else s1.unguardStep
  | .idle => { s1 with jc.room := none }
  | .read _ _ => { s1 with jc.room := none }
  | .record .. => { s1 with jc.room := none }

/-- R60 (4, 5), R61, R65: an unguard's update completed; a save still in ROOM ends and its write is released. -/
def State.unguardDone (s : State) : State :=
  let s1 := s.raise .unguarded
  let s2 : State :=
    { s1 with
      jc.room := none
      jc.state := match s1.jc.state with
        | .opened => .unguarded
        | v => v }
  match s2.save with
  | .room _ _ => s2.perform true
  | .idle => s2
  | .read _ _ => s2
  | .record .. => s2

/-- R101, R103: what follows an update that ended with OKAY. -/
def State.requesterDone (r : Requester) (s : State) : State :=
  match r, s.jc.state with
  | .reclaim, _ => s.reclaimDone
  | .unguard, _ => s.unguardDone
  | .commit, .committing c => s.commitComplete c
  | .intent, .rollingBack c => s.intentDone c
  | .completion, .rollingBack _ => s.rollbackComplete
  | .recovery, .recovering c =>
    match c.step with
    | .anchor k => s.recoveryComplete c k
    | .scan _ _ => s
    | .replay _ _ => s
    | .tagWait _ => s
  | .discard, .discarding c => s.discardComplete c
  | .clearing, .clearing _ => s.clearingComplete
  | _, _ => s

/-- R103: what follows an update that ended with a memory error. DESIGN CHOICE (log 19): the unguard's update of a rollback that has
been abandoned meanwhile finds no operation running, and leaves its result UNSAFE (R120, R121). -/
def State.requesterFailed (r : Requester) (s : State) : State :=
  match r with
  | .reclaim => (s.endLong .failed).enterDamaged .anchor
  | .unguard => (s.endLong .failed).enterDamaged .anchor
  | .commit => (s.endLong .failed).enterDamaged .anchor
  | .intent => s.intentFailed
  | .completion => ((s.endLong .failed).endReport .damaged).enterDamaged .anchor
  | .recovery => (s.endReport .damaged).enterDamaged .anchor
  | .discard => (s.endLong .failed).enterDamaged .anchor
  | .clearing => (s.endLong .failed).enterDamaged .anchor

/-- R101: all 16 writes of an update were answered OKAY. -/
def State.updateDone (s : State) : State :=
  match s.anchor.active with
  | none => s
  | some a =>
    let s1 : State := { s with anchor.active := none, anchor.newest := some { slot := a.target, seq := a.seq } }
    s1.requesterDone a.requester

/-- R101: a write of an update was answered ERROR. -/
def State.updateFailed (s : State) : State :=
  match s.anchor.active with
  | none => s
  | some a =>
    let s1 : State := { s with anchor.active := none, jc.work := none }
    s1.requesterFailed a.requester

end Sys2Proof.Machine
end

