-- ==== Sys2Proof/Machine/Settle.lean ====
section
/-! DEFINITION. What comes about inside one event after its first effect: the steps of the controller that need no transaction, the
offers of the latches, the examination of the head, the acceptance of presented requests, until none is left; then the controller's
claim and the grant (R3, R13, R26, R78, R117, R158, R169). -/

namespace Sys2Proof.Machine

/-- The controller's next step that needs no memory transaction and no further event, if there is one. -/
def State.ctlStep (s : State) : Option State :=
  match s.jc.state with
  | .anchorRead => if s.jc.work.isNone then some s.beginAnchorRead else none
  | .unformatted => none
  | .recovering c => s.recoveryStep c
  | .opened => none
  | .unguarded => none
  | .committing c => s.commitStep c
  | .rollingBack c => s.rollbackStep c
  | .discarding c => s.discardStep c
  | .formatting c => s.formatStep c
  | .clearing c => s.clearingStep c
  | .damaged _ => none

/-- The front port's next step: the head is examined, or a presented request accepted. -/
def State.frontStep (s : State) : Option State :=
  match s.headStep with
  | some t => some t
  | none => s.acceptStep

/-- One step inside an event. The controller's own steps come first; an offer and a step of the front port may come in either
order (R93, R27, R14; log 15). -/
def State.internalStep (s : State) : Option State :=
  match s.ctlStep with
  | some t => some t
  | none => eitherFirst (Config.offerFirst s.freeIndex) s State.offerStep State.frontStep

/-- The steps inside an event, until none is left or the fuel is used up. -/
def State.settleWith : Nat → State → State
  | 0, s => s
  | n + 1, s =>
    match s.internalStep with
    | none => s
    | some t => settleWith n t

/-- More steps than one event can hold: each request is accepted, begins to wait once for each state it meets, and is answered;
the controller makes a few steps (log 26). -/
def State.fuel (s : State) : Nat := 64 + 16 * (s.front.queue.length + s.front.presented.length)

/-- All the steps inside an event. -/
def State.settle (s : State) : State := State.settleWith s.fuel s

/-- Whether the controller has a transaction claimed or in flight (R156). -/
def Port.ctlOutstanding (p : Port) : Bool :=
  p.ctlClaim.isSome || match p.inFlight with
    | some (.controller, _) => true
    | some (.request, _) => false
    | none => false

/-- R156, R169: the controller raises the claim of its next transaction, unless one is outstanding or a halt is in force. -/
def State.raiseCtlClaim (s : State) : State :=
  if s.lines.halt || s.port.ctlOutstanding then s
  else
    match s.jc.work with
    | none => s
    | some w =>
      match w.todo with
      | [] => s
      | t :: _ => { s with port.ctlClaim := some t }

/-- R158: a grant removes the claim, puts its transaction in flight and moves the last grant. A grant of the request path beside a
claim of the controller is the meeting R161 speaks of. -/
def Port.grant (c : Claimant) (p : Port) : Port :=
  match c, p.reqClaim, p.ctlClaim with
  | .request, some t, _ =>
    { p with
      reqClaim := none
      inFlight := some (.request, t)
      lastGrant := .request
      met := p.met || p.ctlClaim.isSome }
  | .controller, _, some t => { p with ctlClaim := none, inFlight := some (.controller, t), lastGrant := .controller }
  | .request, none, _ => p
  | .controller, _, none => p

/-- R158: the claimant that is not the given one. -/
def Claimant.other : Claimant → Claimant
  | .request => .controller
  | .controller => .request

/-- R158: the grant at the end of an event. `waited` says that a claim was waiting before the event: then the alternation decides
between two claims. Of two claims raised on this event R158 lets either be granted: the first time since the reset it is the request
path (R161), later a free value says which. DESIGN CHOICE (log 14): where a claim of the controller has waited behind a lone grant of
the request path, the alternation grants the controller although the two meet for the first time; R161's words then hold for the next
meeting that R158 does not decide so. -/
def State.arbitrate (waited : Bool) (s : State) : State :=
  if s.port.inFlight.isSome then s
  else
    match s.port.reqClaim, s.port.ctlClaim with
    | none, none => s
    | some _, none => { s with port := s.port.grant .request }
    | none, some _ => { s with port := s.port.grant .controller }
    | some _, some _ =>
      if waited then { s with port := s.port.grant s.port.lastGrant.other }
      else if !s.port.met then { s with port := s.port.grant .request }
      else if Config.requestFirst s.freeIndex then { s.drawn with port := s.port.grant .request }
      else { s.drawn with port := s.port.grant .controller }

/-- Whether a claim waits at the port. -/
def State.claimWaits (s : State) : Bool := s.port.reqClaim.isSome || s.port.ctlClaim.isSome

/-- The end of an event that found a claim waiting or not: all steps inside it, the controller's claim, the grant. -/
def State.finish (waited : Bool) (s : State) : State := (s.settle.raiseCtlClaim).arbitrate waited

/-- An event that has its effect only outside reset (log 10). -/
def State.live (s : State) (f : State → State) : State := if s.inReset then s else f s

/-- An event with everything that comes about inside it. -/
def State.event (s : State) (f : State → State) : State := s.live fun s => (f s).finish s.claimWaits

end Sys2Proof.Machine
end

