-- ==== Sys2Proof/Machine/Responses.lean ====
section
/-! DEFINITION. The response layouts of the management link and the codes they carry (R190, R191), with the coding of absent
values. -/

namespace Sys2Proof.Machine

/-- R190: the codes of the results. -/
def Result.code : Result → Byte
  | .done => 0x00
  | .accepted => 0x01
  | .busy => 0x02
  | .notOpen => 0x03
  | .noSuch => 0x04
  | .notSafe => 0x05
  | .badArgument => 0x06
  | .overlap => 0x07
  | .noTagRoom => 0x08
  | .halted => 0x09
  | .unknown => 0x0A

/-- R190: the codes of the last long-operation results. -/
def LongResult.code : LongResult → Byte
  | .done => 0x00
  | .accepted => 0x01
  | .notSafe => 0x05
  | .failed => 0x0B
  | .none => 0x0C

/-- R190: the codes of the controller states. -/
def CtlName.code : CtlName → Byte
  | .anchorRead => 0
  | .unformatted => 1
  | .recovering => 2
  | .opened => 3
  | .unguarded => 4
  | .committing => 5
  | .rollingBack => 6
  | .discarding => 7
  | .formatting => 8
  | .clearing => 9
  | .damaged => 10

/-- R190: the codes of the damage causes; 0 for none. -/
def causeCode : Option Cause → Byte
  | none => 0
  | some .anchor => 1
  | some .replay => 2
  | some .scan => 3
  | some .exhausted => 4

/-- R191: the codes of the last long operation; 0 absent. -/
def longOpCode : Option LongOp → Byte
  | none => 0
  | some .commit => 1
  | some .rollback => 2
  | some .discard => 3
  | some .format => 4
  | some .clearDamage => 5

/-- R191: the codes of a report's cause. -/
def ReportCause.code : ReportCause → Byte
  | .command => 1
  | .fallbackLine => 2
  | .recovery => 3

/-- R191: the codes of a report's outcome; 0 absent. -/
def outcomeCode : Option ReportOutcome → Byte
  | none => 0
  | some .complete => 1
  | some .rolledForward => 2
  | some .notSafe => 3
  | some .damaged => 4

/-- One bit of a flags byte. -/
def bitAt (i : Nat) (b : Bool) : Nat := b.toNat * 2 ^ i

/-- R182: whether the ring pointers are absent: in ANCHOR_READ, UNFORMATTED and a FORMATTING taken from UNFORMATTED until slot 0
has been written. -/
def State.pointersAbsent (s : State) : Bool :=
  match s.jc.state with
  | .anchorRead => true
  | .unformatted => true
  | .formatting c =>
    c.cameFrom == .unformatted &&
      match c.step with
      | .headWait => true
      | .scrub _ => true
      | .invalidate0 => true
      | .invalidate1 => true
      | .slot0 => true
      | .apply => false
      | .clear => false
  | .recovering _ => false
  | .opened => false
  | .unguarded => false
  | .committing _ => false
  | .rollingBack _ => false
  | .discarding _ => false
  | .clearing _ => false
  | .damaged _ => false

/-- R182: whether the scan runs, during which head and free are absent too. -/
def State.scanning (s : State) : Bool :=
  match s.jc.state with
  | .recovering c =>
    match c.step with
    | .scan _ _ => true
    | .replay _ _ => false
    | .tagWait _ => false
    | .anchor _ => false
  | .anchorRead => false
  | .unformatted => false
  | .opened => false
  | .unguarded => false
  | .committing _ => false
  | .rollingBack _ => false
  | .discarding _ => false
  | .formatting _ => false
  | .clearing _ => false
  | .damaged _ => false

/-- R191: a pointer's 3 bytes; absent reads 0xFFFFFF. -/
def pointerBytes (absent : Bool) (n : Nat) : List Byte := leBytes 3 (if absent then 0xFFFFFF else n)

/-- R191: the newest slot's byte; none reads 0xFF. -/
def newestByte : Option Newest → Byte
  | none => 0xFF
  | some n => BitVec.ofNat 8 n.slot.number

/-- R182, R191: the GET STATUS response, one snapshot. -/
def State.statusBytes (s : State) : List Byte :=
  [s.name.code, causeCode s.damageCause,
    BitVec.ofNat 8
      (bitAt 0 s.mark + bitAt 1 s.lines.halt + bitAt 2 s.windows.stagedDiffers + bitAt 3 s.jc.windowLost +
        bitAt 4 s.lines.ckptLatch + bitAt 5 s.lines.fallbackLatch + bitAt 6 s.ready + bitAt 7 s.evtAsserted)] ++
    pointerBytes s.pointersAbsent s.jc.tail ++
    pointerBytes (s.pointersAbsent || s.scanning) s.jc.head ++
    pointerBytes s.pointersAbsent s.jc.occupancy ++
    pointerBytes (s.pointersAbsent || s.scanning) s.free ++
    leBytes 2 (if s.anchor.newest.isNone then 0 else s.anchor.format.toNat) ++
    [newestByte s.anchor.newest] ++
    leBytes 4 ((s.anchor.newest.map Newest.seq).getD 0).toNat ++
    [longOpCode s.link.lastOp, s.link.lastResult.code]

/-- R183, R191: the GET IDENTITY response: part code 2,410, revision 1. -/
def State.identityBytes (s : State) : List Byte :=
  [s.jbase.setWidth 8] ++ leBytes 4 (regionBase s.jbase) ++ [s.jsize.setWidth 8] ++ leBytes 4 (regionSize s.jsize) ++
    leBytes 4 s.capacity ++ leBytes 2 2410 ++ [1]

/-- R191: the sweep activity's byte and the retiring generation's byte. -/
def Sweep.bytes : Sweep → List Byte
  | .idle => [0, 0]
  | .retiring g => [1, g.setWidth 8]
  | .fullClear => [2, 0]

/-- R191: the sweep-done mark's byte. -/
def SweepDone.byte : SweepDone → Byte
  | .absent => 0
  | .gen g => g.setWidth 8
  | .all => 8

/-- R191: the seven fields of the open-epoch record; 0 when it is absent. DESIGN CHOICE (log 35): bits 7..1 of the flags byte, of
which R191 gives bit 0 alone, are 0. -/
def epochBytes : Option OpenEpoch → List Byte
  | none => List.replicate 20 0
  | some e =>
    leBytes 4 e.number.toNat ++ leBytes 3 e.firstSlot ++ leBytes 4 e.firstSeq.toNat ++ leBytes 3 e.preImages ++
      leBytes 4 e.writes.toNat ++ [flagsByte e.broken false, e.generation.setWidth 8]

/-- R35, R191: the GET OPEN EPOCH response. -/
def State.openEpochBytes (s : State) : List Byte :=
  [s.name.code] ++ epochBytes s.jc.epoch ++ s.tags.activity.bytes ++ [s.tags.done.byte]

/-- R105, R191: the GET DIRECTORY ENTRY response. DESIGN CHOICE (log 35): bits 7..1 of the flags byte, of which R191 gives bit 0
alone, are 0. -/
def directoryBytes (count : Nat) (d : DirEntry) : List Byte :=
  [BitVec.ofNat 8 count] ++ leBytes 4 d.number.toNat ++ leBytes 3 d.firstSlot ++ leBytes 3 d.slots ++ leBytes 3 d.preImages ++
    leBytes 4 d.writes.toNat ++ leBytes 4 d.stamp.toNat ++ [flagsByte d.broken false]

/-- R133, R191: the GET REPORT response. DESIGN CHOICE (log 34): the present byte of a report held is 1; R191 gives only 0 for an
absent one. -/
def reportBytes : Option Report → List Byte
  | none => List.replicate 23 0
  | some r =>
    [1, r.cause.code] ++ leBytes 4 (r.target.getD 0).toNat ++ leBytes 4 r.openAtStart.toNat ++ leBytes 3 r.replayed ++
      leBytes 4 r.start.toNat ++ leBytes 4 (r.finish.getD 0).toNat ++ [outcomeCode r.outcome, 0]

/-- R184, R191: the GET POLICY response. -/
def Policies.bytes (p : Policies) : List Byte :=
  [BitVec.ofNat 8 p.reclaim.toNat] ++ leBytes 2 p.autoCommit.toNat ++ leBytes 2 p.holdLimit.toNat ++ [p.qualify.setWidth 8]

/-- R24, R191: the GET WINDOW response for a slot of a table. DESIGN CHOICE: the mode has its own byte and the length is sent
plain, not in the form of R188's window entry with the mode in bit 31 (log 33); the staged-differs byte is 1 when the flag is set
and 0 when it is clear (log 34). -/
def windowSlotBytes (table : WindowTable) (slot : Nat) (differs : Bool) : List Byte :=
  (match table.getD slot none with
    | none => List.replicate 12 0
    | some w =>
      match w.mode with
      | .journaled => [1] ++ leBytes 4 w.base ++ leBytes 4 w.length ++ leBytes 3 (tagBase table slot)
      | .frozen => [2] ++ leBytes 4 w.base ++ leBytes 4 w.length ++ leBytes 3 0) ++
    [BitVec.ofNat 8 differs.toNat]

/-- R177: what MISO carries in the position the decoder is in; none while CS_N is high (high impedance). -/
def Link.miso (l : Link) : Option Byte :=
  if !l.csLow then none
  else
    match l.pos with
    | .answer k =>
      match l.answer with
      | none => some 0xFF
      | some a => some (if k = 0 then a.result.code else a.response.getD (k - 1) 0xFF)
    | .idle => some 0xFF
    | .command => some 0xFF
    | .arguments _ _ => some 0xFF
    | .turnaround => some 0xFF
    | .overrun => some 0xFF

end Sys2Proof.Machine
end

