-- ==== Sys2Proof/Machine/Link.lean ====
section
/-! DEFINITION. The link commands that report and configure (R22 to R24, R35, R105, R133, R172, R175, R176, R182 to R185). Each is
its execution event: the state is examined, the action taken, the result and response fixed (R178). -/

namespace Sys2Proof.Machine

/-- R178: whether a command can execute: in a frame's COMMAND or ARGUMENTS, or in IDLE with CS_N high, where the command's row
stands for the frame's start as well (log 5). -/
def Link.canExecute (l : Link) : Bool :=
  match l.pos with
  | .idle => !l.csLow
  | .command => true
  | .arguments _ _ => true
  | .turnaround => false
  | .answer _ => false
  | .overrun => false

/-- R178: whether the state lets a command execute. -/
def State.linkReady (s : State) : Bool := !s.inReset && s.link.canExecute

/-- R178: the result and the response bytes are fixed, and the decoder goes to TURNAROUND. -/
def State.answer (r : Result) (response : List Byte) (s : State) : State :=
  { s with link.csLow := true, link.pos := .turnaround, link.answer := some { result := r, response := response } }

/-- R177: a result other than DONE: every response byte reads 0xFF. -/
def State.refuse (r : Result) (count : Nat) (s : State) : State := s.answer r (List.replicate count 0xFF)

/-- A command's execution, when the frame is where a command executes; a command byte sent later in a frame is ignored (R177). -/
def State.linkCommand (s : State) (f : State → State) : State := if s.linkReady then f s else s

/-! ### Reports -/

/-- GET STATUS (R182). -/
def State.runGetStatus (s : State) : State := s.answer .done s.statusBytes

/-- GET IDENTITY (R183). -/
def State.runGetIdentity (s : State) : State := s.answer .done s.identityBytes

/-- READ EVENTS (R175): the capture is taken and reported. -/
def State.runReadEvents (s : State) : State :=
  let s' : State := { s with events.capture := some s.events.flags, events.raisedSince := 0 }
  s'.answer .done (leBytes 2 s.events.flags.toNat)

/-- GET OPEN EPOCH (R35). -/
def State.runGetOpenEpoch (s : State) : State :=
  match s.name with
  | .anchorRead => s.refuse .busy 24
  | .recovering => s.refuse .busy 24
  | .unformatted => s.refuse .notOpen 24
  | .opened => s.answer .done s.openEpochBytes
  | .unguarded => s.answer .done s.openEpochBytes
  | .committing => s.answer .done s.openEpochBytes
  | .rollingBack => s.answer .done s.openEpochBytes
  | .discarding => s.answer .done s.openEpochBytes
  | .formatting => s.answer .done s.openEpochBytes
  | .clearing => s.answer .done s.openEpochBytes
  | .damaged => s.answer .done s.openEpochBytes

/-- GET DIRECTORY ENTRY (R105). -/
def State.runGetDirectoryEntry (k : Byte) (s : State) : State :=
  if 14 < k.toNat then s.refuse .badArgument 23
  else if s.name = .anchorRead ∨ s.name = .recovering then s.refuse .busy 23
  else if s.name = .unformatted then s.refuse .notOpen 23
  else
    match s.jc.directory[k.toNat]? with
    | none => s.refuse .noSuch 23
    | some d => s.answer .done (directoryBytes s.jc.directory.length d)

/-- GET REPORT (R133). DESIGN CHOICE (log 37): the report is taken as it stands on the execution event (R178), not as it stands when the
whole frame ends. -/
def State.runGetReport (s : State) : State := s.answer .done (reportBytes s.events.report)

/-- GET POLICY (R184). -/
def State.runGetPolicy (s : State) : State := s.answer .done s.link.policies.bytes

/-- GET WINDOW (R24). -/
def State.runGetWindow (table slot : Byte) (s : State) : State :=
  if s.name = .anchorRead then s.refuse .busy 13
  else if 1 < table.toNat ∨ 7 < slot.toNat then s.refuse .badArgument 13
  else
    s.answer .done
      (windowSlotBytes (if table = 0 then s.windows.committed else s.windows.staged) slot.toNat s.windows.stagedDiffers)

/-- GET STAMP (R172). -/
def State.runGetStamp (s : State) : State := s.answer .done (leBytes 4 s.stamp.toNat)

/-! ### Settings -/

/-- SET EVENT MASK (R176). -/
def State.runSetEventMask (v : Half) (s : State) : State :=
  if 4096 ≤ v.toNat then s.refuse .badArgument 0
  else
    let s' : State := { s with events.mask := v.setWidth 12 }
    s'.answer .done []

/-- R184, R190: the policies after a SET POLICY; none when an argument is refused. -/
def Policies.set (p : Policies) (selector : Byte) (v : Half) : Option Policies :=
  if selector = 0 then (if v = 0 then some { p with reclaim := false } else if v = 1 then some { p with reclaim := true } else none)
  else if selector = 1 then some { p with autoCommit := v }
  else if selector = 2 then some { p with holdLimit := v }
  else if selector = 3 then (if 15 < v.toNat then none else some { p with qualify := v.setWidth 4 })
  else none

/-- SET POLICY (R184). -/
def State.runSetPolicy (selector : Byte) (v : Half) (s : State) : State :=
  match s.link.policies.set selector v with
  | none => s.refuse .badArgument 0
  | some p =>
    let s' : State := { s with link.policies := p }
    s'.answer .done []

/-- R22: the checks of STAGE WINDOW in their order: the window to be staged, or the result that refuses it. DESIGN CHOICE (log
33): the mode is the argument byte of R190 and the length argument is taken as a plain number, bit 31 never as the mode of R188's
entry. -/
def State.stageCheck (slot : Byte) (base length : Word) (mode : Byte) (s : State) : Except Result Window :=
  match modeOf mode with
  | none => .error .badArgument
  | some m =>
    let w : Window := { base := base.toNat, length := length.toNat, mode := m }
    if 7 < slot.toNat then .error .badArgument
    else if w.length = 0 ∨ 2097151 < w.base ∨ 2097152 < w.base + w.length then .error .badArgument
    else if overlaps s.jbase s.jsize s.windows.staged slot.toNat w then .error .overlap
    else if 131072 < journaledLength (s.windows.staged.set slot.toNat (some w)) ∧ m = .journaled then .error .noTagRoom
    else .ok w

/-- STAGE WINDOW (R22). -/
def State.runStageWindow (slot : Byte) (base length : Word) (mode : Byte) (s : State) : State :=
  if s.name = .anchorRead then s.refuse .busy 0
  else
    match s.stageCheck slot base length mode with
    | .error r => s.refuse r 0
    | .ok w =>
      let s' : State := { s with windows := s.windows.stage (s.windows.staged.set slot.toNat (some w)) }
      s'.answer .done []

/-- CLEAR WINDOW (R23). -/
def State.runClearWindow (slot : Byte) (s : State) : State :=
  if s.name = .anchorRead then s.refuse .busy 0
  else if 7 < slot.toNat then s.refuse .badArgument 0
  else
    let s' : State := { s with windows := s.windows.stage (s.windows.staged.set slot.toNat none) }
    s'.answer .done []

/-- SET STAMP (R172). -/
def State.runSetStamp (v : Word) (s : State) : State :=
  let s' : State := { s with stamp := v }
  s'.answer .done []

/-- LINK RESET (R185). -/
def State.runLinkReset (s : State) : State :=
  let s' : State :=
    { s with
      events.flags := 0
      events.mask := defaultMask
      link.policies := .default
      link.lastOp := none
      link.lastResult := .none
      lines.ckptLatch := false
      lines.fallbackLatch := false
      windows := s.windows.stage s.windows.committed }
  s'.answer .done []

/-- UNKNOWN COMMAND (R178): result UNKNOWN, no response bytes, nothing changes. -/
def State.runUnknown (s : State) : State := s.refuse .unknown 0

/-! ### The commands' meanings -/

/-- GET_STATUS (R182). -/
def execGetStatus (s : State) : Host.Outcome State Fault Refusal := .next (s.linkCommand State.runGetStatus)

/-- GET_IDENTITY (R183). -/
def execGetIdentity (s : State) : Host.Outcome State Fault Refusal := .next (s.linkCommand State.runGetIdentity)

/-- READ_EVENTS (R175). -/
def execReadEvents (s : State) : Host.Outcome State Fault Refusal := .next (s.linkCommand State.runReadEvents)

/-- GET_OPEN_EPOCH (R35). -/
def execGetOpenEpoch (s : State) : Host.Outcome State Fault Refusal := .next (s.linkCommand State.runGetOpenEpoch)

/-- GET_DIRECTORY_ENTRY (R105). -/
def execGetDirectoryEntry (k : Byte) (s : State) : Host.Outcome State Fault Refusal :=
  .next (s.linkCommand (State.runGetDirectoryEntry k))

/-- GET_REPORT (R133). -/
def execGetReport (s : State) : Host.Outcome State Fault Refusal := .next (s.linkCommand State.runGetReport)

/-- GET_POLICY (R184). -/
def execGetPolicy (s : State) : Host.Outcome State Fault Refusal := .next (s.linkCommand State.runGetPolicy)

/-- GET_WINDOW (R24). -/
def execGetWindow (table slot : Byte) (s : State) : Host.Outcome State Fault Refusal :=
  .next (s.linkCommand (State.runGetWindow table slot))

/-- GET_STAMP (R172). -/
def execGetStamp (s : State) : Host.Outcome State Fault Refusal := .next (s.linkCommand State.runGetStamp)

/-- SET_EVENT_MASK (R176). -/
def execSetEventMask (v : Half) (s : State) : Host.Outcome State Fault Refusal :=
  .next (s.linkCommand (State.runSetEventMask v))

/-- SET_POLICY (R184). -/
def execSetPolicy (selector : Byte) (v : Half) (s : State) : Host.Outcome State Fault Refusal :=
  .next (s.linkCommand (State.runSetPolicy selector v))

/-- STAGE_WINDOW (R22). -/
def execStageWindow (slot : Byte) (base length : Word) (mode : Byte) (s : State) : Host.Outcome State Fault Refusal :=
  .next (s.linkCommand (State.runStageWindow slot base length mode))

/-- CLEAR_WINDOW (R23). -/
def execClearWindow (slot : Byte) (s : State) : Host.Outcome State Fault Refusal :=
  .next (s.linkCommand (State.runClearWindow slot))

/-- SET_STAMP (R172). -/
def execSetStamp (v : Word) (s : State) : Host.Outcome State Fault Refusal := .next (s.linkCommand (State.runSetStamp v))

/-- LINK_RESET (R185). -/
def execLinkReset (s : State) : Host.Outcome State Fault Refusal := .next (s.linkCommand State.runLinkReset)

/-- UNKNOWN_COMMAND (R178). -/
def execUnknownCommand (_code : Byte) (s : State) : Host.Outcome State Fault Refusal := .next (s.linkCommand State.runUnknown)

end Sys2Proof.Machine
end

