-- ==== Sys2Proof/Machine/LongOps.lean ====
section
/-! DEFINITION. The long-operation commands: COMMIT (R77), ROLLBACK (R115), DISCARD (R106), FORMAT (R109), CLEAR DAMAGE (R113). A
refused command changes nothing but its own frame's answer; an accepted one is taken on the execution event. -/

namespace Sys2Proof.Machine

/-- R77, R106, R109, R115: the controller is carrying out an operation or reading its anchor. -/
def State.longBusy (s : State) : Bool :=
  match s.name with
  | .anchorRead => true
  | .recovering => true
  | .committing => true
  | .rollingBack => true
  | .discarding => true
  | .formatting => true
  | .clearing => true
  | .opened => s.mark
  | .unformatted => false
  | .unguarded => false
  | .damaged => false

/-- R77, R106, R115: the states whose answer is NOT_OPEN. -/
def State.notOpen (s : State) : Bool := s.name == .unformatted || s.name == .damaged

/-- R77: the result of COMMIT. -/
def State.commitResult (s : State) : Result :=
  if s.notOpen then .notOpen
  else if s.longBusy then .busy
  else if s.lines.halt then .halted
  else .accepted

/-- R115 (4): c is the open epoch's number or a directory entry's. -/
def State.listed (c : Word) (s : State) : Bool :=
  (s.jc.epoch.map OpenEpoch.number) == some c || s.jc.directory.any fun d => d.number == c

/-- R115 (5): a directory entry numbered c or above is broken. -/
def State.brokenFrom (c : Word) (s : State) : Bool := s.jc.directory.any fun d => decide (c ≤ d.number) && d.broken

/-- R115: the result of ROLLBACK. -/
def State.rollbackResult (c : Word) (s : State) : Result :=
  if s.notOpen then .notOpen
  else if s.longBusy then .busy
  else if s.name = .unguarded then .notSafe
  else if !s.listed c then .noSuch
  else if s.brokenFrom c then .notSafe
  else if s.lines.halt then .halted
  else .accepted

/-- R106: the result of DISCARD. -/
def State.discardResult (e : Word) (s : State) : Result :=
  if s.notOpen then .notOpen
  else if s.longBusy then .busy
  else if s.lines.halt then .halted
  else if (s.discardSet e).isEmpty then .noSuch
  else .accepted

/-- R109: the result of FORMAT. -/
def State.formatResult (s : State) : Result :=
  if s.longBusy then .busy
  else if s.lines.halt then .halted
  else .accepted

/-- R113: the result of CLEAR DAMAGE. -/
def State.clearDamageResult (s : State) : Result :=
  match s.name with
  | .anchorRead => .busy
  | .recovering => .busy
  | .committing => .busy
  | .rollingBack => .busy
  | .discarding => .busy
  | .formatting => .busy
  | .clearing => .busy
  | .unformatted => .notOpen
  | .opened => .notOpen
  | .unguarded => .notOpen
  | .damaged =>
    if s.damageCause = some .exhausted then .notOpen
    else if s.lines.halt then .halted
    else .accepted

/-- R180: a long operation is accepted. -/
def State.accept (op : LongOp) (s : State) : State :=
  let s' : State := { s with link.lastOp := some op, link.lastResult := .accepted }
  s'.answer .accepted []

/-- A long-operation command: refused with its result, or accepted and taken on this event. -/
def State.longCommand (r : Result) (op : LongOp) (take : State → State) (s : State) : State :=
  if r = .accepted then (take (s.accept op)).finish s.claimWaits else s.answer r []

/-- COMMIT (R77, R82). -/
def State.runCommit (s : State) : State := s.longCommand s.commitResult .commit (State.takeCommit true)

/-- ROLLBACK (R115, R119). -/
def State.runRollback (c : Word) (s : State) : State :=
  s.longCommand (s.rollbackResult c) .rollback (State.takeRollback c .command)

/-- DISCARD (R106, R107). -/
def State.runDiscard (e : Word) (s : State) : State := s.longCommand (s.discardResult e) .discard (State.takeDiscard e)

/-- FORMAT (R109). -/
def State.runFormat (s : State) : State := s.longCommand s.formatResult .format State.takeFormat

/-- CLEAR DAMAGE (R113). -/
def State.runClearDamage (s : State) : State := s.longCommand s.clearDamageResult .clearDamage State.takeClearing

/-- COMMIT (R77). -/
def execCommit (s : State) : Host.Outcome State Fault Refusal := .next (s.linkCommand State.runCommit)

/-- ROLLBACK (R115). -/
def execRollback (c : Word) (s : State) : Host.Outcome State Fault Refusal := .next (s.linkCommand (State.runRollback c))

/-- DISCARD (R106). -/
def execDiscard (e : Word) (s : State) : Host.Outcome State Fault Refusal := .next (s.linkCommand (State.runDiscard e))

/-- FORMAT (R109). -/
def execFormat (s : State) : Host.Outcome State Fault Refusal := .next (s.linkCommand State.runFormat)

/-- CLEAR_DAMAGE (R113). -/
def execClearDamage (s : State) : Host.Outcome State Fault Refusal := .next (s.linkCommand State.runClearDamage)

end Sys2Proof.Machine
end

