-- ==== Sys2Proof/Machine/Frames.lean ====
section
/-! DEFINITION. Frames of the management link: FRAME_START, FRAME_END, BYTE_POSITION_END (R175, R177, R178). -/

namespace Sys2Proof.Machine

/-- R178: CS_N is asserted: in IDLE a frame starts in COMMAND. While PRST_N is asserted only the level is followed. -/
def State.startFrame (s : State) : State :=
  if s.inReset then { s with link.csLow := true }
  else if s.link.csLow then s
  else { s with link.csLow := true, link.pos := .command, link.answer := none }

/-- FRAME_START (R178). -/
def execFrameStart (s : State) : Host.Outcome State Fault Refusal := .next s.startFrame

/-- R175: the flags that the end of a frame leaves: a READ EVENTS clocked out to its last response byte clears what it captured
and was not raised again. -/
def State.flagsAfterFrame (s : State) : BitVec 12 :=
  match s.events.capture with
  | none => s.events.flags
  | some c => if s.link.pos = .overrun then s.events.flags &&& ~~~(c &&& ~~~s.events.raisedSince) else s.events.flags

/-- R175, R178: CS_N is deasserted: the decoder returns to IDLE and the capture is discarded. -/
def State.endFrame (s : State) : State :=
  if s.inReset then { s with link.csLow := false }
  else
    { s with
      events.flags := s.flagsAfterFrame
      events.capture := none
      events.raisedSince := 0
      link.csLow := false
      link.pos := .idle }

/-- FRAME_END (R175, R178). -/
def execFrameEnd (s : State) : Host.Outcome State Fault Refusal := .next s.endFrame

/-- R178: the command that a frame's bytes spell executes. Events that are no link command are never spelt (R190). -/
def State.runFrame (i : Instr) (s : State) : State :=
  match i with
  | .getStatus => s.runGetStatus
  | .getIdentity => s.runGetIdentity
  | .readEvents => s.runReadEvents
  | .setEventMask v => s.runSetEventMask v
  | .getOpenEpoch => s.runGetOpenEpoch
  | .getDirectoryEntry k => s.runGetDirectoryEntry k
  | .getReport => s.runGetReport
  | .setPolicy sel v => s.runSetPolicy sel v
  | .getPolicy => s.runGetPolicy
  | .stageWindow slot base length mode => s.runStageWindow slot base length mode
  | .clearWindow slot => s.runClearWindow slot
  | .getWindow table slot => s.runGetWindow table slot
  | .commit => s.runCommit
  | .rollback c => s.runRollback c
  | .discard e => s.runDiscard e
  | .format => s.runFormat
  | .clearDamage => s.runClearDamage
  | .setStamp v => s.runSetStamp v
  | .getStamp => s.runGetStamp
  | .linkReset => s.runLinkReset
  | .unknownCommand _ => s.runUnknown
  | .powerUp .. => s
  | .prstAssert .. => s
  | .prstWithdraw => s
  | .requestAccept _ => s
  | .holdExpiry => s
  | .memoryResponse _ => s
  | .autoCommitExpiry => s
  | .lineQualify .. => s
  | .retireSweepEnd => s
  | .fullClearEnd => s
  | .haltBegin => s
  | .haltEnd => s
  | .stampIncrement => s
  | .frameStart => s
  | .frameEnd => s
  | .lineSamplingEvent .. => s
  | .bytePositionEnd _ => s

/-- R177, R178: a frame whose command byte is `code` and whose argument bytes so far are `got`: it executes when the argument
count is reached, else it goes on in ARGUMENTS. A byte that names no command executes at its own end. -/
def State.afterByte (code : Byte) (got : List Byte) (s : State) : State :=
  match commandShape code with
  | none => s.runFrame (.unknownCommand code)
  | some (a, _) =>
    if got.length = a then s.runFrame (frameCommand code got)
    else { s with link.pos := .arguments code got }

/-- R178: the byte of a position ends, and the decoder moves on. -/
def State.endByte (mosi : Byte) (s : State) : State :=
  match s.link.pos with
  | .idle => s
  | .command => s.afterByte mosi []
  | .arguments code got => s.afterByte code (got ++ [mosi])
  | .turnaround => { s with link.pos := .answer 0 }
  | .answer k =>
    let count := (s.link.answer.map fun a => a.response.length).getD 0
    { s with link.pos := if k < count then .answer (k + 1) else .overrun }
  | .overrun => s

/-- BYTE_POSITION_END (R178). -/
def execBytePositionEnd (mosi : Byte) (s : State) : Host.Outcome State Fault Refusal := .next (s.live (State.endByte mosi))

end Sys2Proof.Machine
end

