-- ==== Sys2Proof/Machine/Lines.lean ====
section
/-! DEFINITION. The line unit's commands: LINE_SAMPLING_EVENT and LINE_QUALIFY (R162 to R166), and what the controller does with a
line request on its arrival (R78, R116, R165). -/

namespace Sys2Proof.Machine

/-- R78, R165: a qualified CKPT_REQ assertion: taken, latched, or discarded because the latch is full. -/
def State.ckptRequest (s : State) : State :=
  if s.canCommit then s.takeCommit false
  else if s.lines.ckptLatch then s.raise .lineDiscarded
  else { s with lines.ckptLatch := true }

/-- R116, R165: a qualified FALLBACK_REQ assertion: taken with the open epoch as target, discarded by the state, discarded because
the latch is full, or latched. -/
def State.fallbackRequest (s : State) : State :=
  if s.canFallback then s.takeRollback s.openNumber .fallbackLine
  else if s.dropsFallback || s.lines.fallbackLatch then s.raise .lineDiscarded
  else { s with lines.fallbackLatch := true }

/-- R163, R164: whether a sample at `level` completes the line's run under qualify count `count`. -/
def Qualifier.completes (count : BitVec 4) (level : Bool) (q : Qualifier) : Bool :=
  level != q.asserted && decide (count.toNat + 1 ≤ q.run + 1)

/-- R163, R164: one sample. At the qualified level the run count becomes 0; at the other it rises by 1, and when it then stands at
Q + 1 or above the qualifier takes the sampled level and the run count becomes 0. -/
def Qualifier.sample (count : BitVec 4) (level : Bool) (q : Qualifier) : Qualifier :=
  if level = q.asserted then { q with run := 0 }
  else if count.toNat + 1 ≤ q.run + 1 then { asserted := level, run := 0 }
  else { q with run := q.run + 1 }

/-- R163: whether a sample qualifies an assertion. -/
def Qualifier.requests (count : BitVec 4) (level : Bool) (q : Qualifier) : Bool := level && q.completes count level

/-- R163: both lines are sampled on one event, and each assertion qualified makes its request on that event. Of two requests either
may be first (R81, R118; log 15). -/
def State.sampleLines (ckpt fallback : Bool) (s : State) : State :=
  let n := s.link.policies.qualify
  let t : State := { s with lines.ckpt := s.lines.ckpt.sample n ckpt, lines.fallback := s.lines.fallback.sample n fallback }
  match s.lines.ckpt.requests n ckpt, s.lines.fallback.requests n fallback with
  | false, false => t
  | true, false => t.ckptRequest
  | false, true => t.fallbackRequest
  | true, true =>
    if Config.ckptFirst s.freeIndex then t.drawn.ckptRequest.fallbackRequest else t.drawn.fallbackRequest.ckptRequest

/-- LINE_SAMPLING_EVENT (R163). -/
def execLineSamplingEvent (ckpt fallback : Bool) (s : State) : Host.Outcome State Fault Refusal :=
  .next (s.event (State.sampleLines ckpt fallback))

/-- R163: the sampling event on which a line's run is completed; nothing where this sample does not complete it (log 7). -/
def State.qualify (l : LineRun) (s : State) : State :=
  let n := s.link.policies.qualify
  match l with
  | .ckpt fallback =>
    if s.lines.ckpt.completes n (!s.lines.ckpt.asserted) then s.sampleLines (!s.lines.ckpt.asserted) fallback else s
  | .fallback ckpt =>
    if s.lines.fallback.completes n (!s.lines.fallback.asserted) then s.sampleLines ckpt (!s.lines.fallback.asserted) else s

/-- LINE_QUALIFY (R163). -/
def execLineQualify (l : LineRun) (s : State) : Host.Outcome State Fault Refusal := .next (s.event (State.qualify l))

end Sys2Proof.Machine
end

