-- ==== Sys2Proof/Machine/Power.lean ====
section
/-! DEFINITION. Power, reset and halt: POWER_UP, PRST_N_ASSERT, PRST_N_WITHDRAW (R6, R29, R137, R161), HALT_BEGIN and HALT_END
(R167 to R170). -/

namespace Sys2Proof.Machine

/-- The state that a reset leaves (R6, R29, R37, R40, R63, R99, R119, R133, R137, R161, R162, R166, R172, R173, R178, R180, R184),
with the straps sampled (R43). The pins keep their levels; the commands waiting, the requests the front side keeps presented and the
responses already returned are not the part's (log 16, 17). -/
def State.afterReset (straps : Straps) (held pfwLow csLow : Bool) (s : State) : State :=
  { State.reset with
    pending := s.pending
    jbase := straps.jbase
    jsize := straps.jsize
    inReset := held
    front := { State.reset.front with presented := s.front.presented, responses := s.front.responses }
    tags := { State.reset.tags with store := { base := .unknown s.freeIndex [], listed := [] } }
    lines := { State.reset.lines with halt := pfwLow }
    link := { State.reset.link with csLow := csLow }
    freeIndex := s.freeIndex + 1 }

/-- POWER_UP (R137): everything volatile takes its reset value and the straps are sampled; with PRST_N high the anchor read begins
(log 9). A raise that falls on this event and is taken after the reset leaves its flag set (R173, log 31). -/
def execPowerUp (straps : Straps) (prstLow pfwLow csLow : Bool) (raised : BitVec 12) (s : State) :
    Host.Outcome State Fault Refusal :=
  .next (((s.afterReset straps prstLow pfwLow csLow).raiseAll raised).event id)

/-- PRST_N_ASSERT (R29, R137), with the raises taken after it on the same event (R173, log 31). -/
def execPrstAssert (straps : Straps) (raised : BitVec 12) (s : State) : Host.Outcome State Fault Refusal :=
  .next ((s.afterReset straps true s.lines.halt s.link.csLow).raiseAll raised)

/-- PRST_N_WITHDRAW (R137): sampling, the stamp counter and the anchor read begin. -/
def execPrstWithdraw (s : State) : Host.Outcome State Fault Refusal :=
  let s' : State := { s with inReset := false }
  .next (s'.event id)

/-- R79, R168: the halt comes into force: a RUNNING timer becomes PAUSED. -/
def State.beginHalt (s : State) : State := { s with lines.halt := true, jc.timer := s.jc.timer.pause }

/-- HALT_BEGIN (R168): PFW_N is seen low; waiting heads are answered HALTED. While PRST_N is asserted only the level is followed
(R167). -/
def execHaltBegin (s : State) : Host.Outcome State Fault Refusal :=
  if s.inReset then .next { s with lines.halt := true } else .next (s.event State.beginHalt)

/-- R79, R170: the halt ends: a PAUSED timer becomes RUNNING in OPEN and UNGUARDED. -/
def State.endHalt (s : State) : State :=
  { s with
    lines.halt := false
    jc.timer := if s.name == .opened || s.name == .unguarded then s.jc.timer.resume else s.jc.timer }

/-- HALT_END (R170): PFW_N is seen high. -/
def execHaltEnd (s : State) : Host.Outcome State Fault Refusal :=
  if s.inReset then .next { s with lines.halt := false } else .next (s.event State.endHalt)

end Sys2Proof.Machine
end

