-- ==== Sys2Proof/Machine/Requests.lean ====
section
/-! DEFINITION. The front port's and the memory port's commands: REQUEST_ACCEPT (R2), HOLD_EXPIRY (R18), MEMORY_RESPONSE (R155),
and what the owner of a transaction does with its response (R66 to R70, R157, R160). -/

namespace Sys2Proof.Machine

/-- REQUEST_ACCEPT (R2): the request is presented, and accepted as soon as the queue holds fewer than 4 and PRST_N is not
asserted. -/
def execRequestAccept (r : Request) (s : State) : Host.Outcome State Fault Refusal :=
  let s' : State := { s with front.presented := s.front.presented ++ [r] }
  .next (s'.event id)

/-- R18: whether the hold timer can expire: it runs and the head is waiting. -/
def State.holdRunning (s : State) : Bool := s.front.holdTimer.isSome && !s.inProgress && !s.front.queue.isEmpty

/-- R18: the head is answered HELD and HELD_OUT is raised. -/
def State.holdExpired (s : State) : State := if s.holdRunning then (s.respond .held []).raise .heldOut else s

/-- HOLD_EXPIRY (R18). -/
def execHoldExpiry (s : State) : Host.Outcome State Fault Refusal := .next (s.event State.holdExpired)

/-! ### Responses on the request path -/

/-- R67: the PRE-IMAGE record of a save, for the slot at head. -/
def State.saveRecord (g : Nat) (payload : List Byte) (s : State) : Record :=
  { format := s.anchor.format, epoch := s.openNumber, seq := s.jc.nextSeq, body := .preImage g payload }

/-- R66, R67: the granule read was answered OKAY: the record is built and its first write claimed. -/
def State.saveReadOkay (g t : Nat) (data : List Byte) (s : State) : State :=
  let payload := data.take 32
  let bytes := (s.saveRecord g payload).encode s.jc.head
  match recordWrites s.base s.jc.head bytes with
  | [] => s
  | w :: rest => { s with save := .record g t payload bytes rest, port.reqClaim := some w }

/-- R67: the fifth transaction of the record was answered OKAY: head, occupancy, sequence, pre-image count and tag move
together, and the write is released. -/
def State.saveComplete (t : Nat) (s : State) : State :=
  let s1 := s.recordAdded
  let s2 : State :=
    { s1 with
      jc.epoch := s1.jc.epoch.map fun e => { e with preImages := e.preImages + 1 }
      tags.store := s1.tags.store.set t s1.openGeneration }
  s2.perform true

/-- R9, R12, R70: the head's own transaction was answered OKAY; a journaled write is counted (R34). DESIGN CHOICE (log 36): also
where a DISCARD's failed update has sent the controller to DAMAGED, or a command to FORMATTING or CLEARING, while the write was in
flight. -/
def State.ownOkay (counts : Bool) (data : List Byte) (s : State) : State :=
  (if counts then s.countWrite else s).respond .okay data

/-- R66 to R70: the request path's response, OKAY with data or ERROR. -/
def State.requestResponse (a : MemAnswer) (s : State) : State :=
  match a with
  | .error => if s.inProgress then s.respond .memory [] else s
  | .okay data =>
    match s.save with
    | .read g t => s.saveReadOkay g t data
    | .record g t payload bytes left =>
      match left with
      | [] => s.saveComplete t
      | w :: rest => { s with save := .record g t payload bytes rest, port.reqClaim := some w }
    | .idle =>
      match s.front.phase with
      | .performing counts => s.ownOkay counts data
      | .waiting => s
    | .room _ _ =>
      match s.front.phase with
      | .performing counts => s.ownOkay counts data
      | .waiting => s

/-! ### Responses on the controller's side -/

/-- R137, R111: the owners whose transaction is issued again after an ERROR. -/
def Owner.retries : Owner → Bool
  | .anchorRead => true
  | .scrub => true
  | .invalidate0 => true
  | .invalidate1 => true
  | .slot0 => true
  | .scan => false
  | .replayRead => false
  | .replayWrite => false
  | .commitRecord => false
  | .update => false

/-- R160: a transaction of the controller was answered ERROR. -/
def State.workFailed (o : Owner) (s : State) : State :=
  match o with
  | .anchorRead => s
  | .scrub => s
  | .invalidate0 => s
  | .invalidate1 => s
  | .slot0 => s
  | .scan => s.scanFailed
  | .replayRead => s.replayFailed
  | .replayWrite => s.replayFailed
  | .commitRecord => s.commitRecordFailed
  | .update => s.updateFailed

/-- A format's transfer has ended (R110, R111). -/
def State.formatWorkDone (o : Owner) (c : FormatCtx) (s : State) : State :=
  match o, c.step with
  | .scrub, .scrub slot => s.scrubDone c slot
  | .invalidate0, .invalidate0 => s.invalidate1 c
  | .invalidate1, .invalidate1 => s.writeSlot0 c
  | .slot0, .slot0 => s.slot0Done c
  | _, _ => s

/-- The last transaction of a transfer was answered OKAY; `bytes` are the bytes it read (R85, R101, R110, R125, R138, R140). -/
def State.workDone (o : Owner) (bytes : List Byte) (s : State) : State :=
  match o, s.jc.state with
  | .anchorRead, .anchorRead => s.judgeAnchors bytes
  | .scan, .recovering c =>
    match c.step with
    | .scan count slot => s.scanRecord c count slot bytes
    | .replay _ _ => s
    | .tagWait _ => s
    | .anchor _ => s
  | .replayRead, _ => s.replayRecord bytes
  | .replayWrite, _ => s.replayWritten
  | .commitRecord, .committing c =>
    match c.step with
    | .record info => s.commitRecordDone c info
    | .drain => s
    | .tagWait => s
    | .anchor => s
  | .update, _ => s.updateDone
  | o, .formatting c => s.formatWorkDone o c
  | _, _ => s

/-- R160: the controller's response, OKAY with data or ERROR. -/
def State.controllerResponse (a : MemAnswer) (s : State) : State :=
  match s.jc.work with
  | none => s
  | some w =>
    match w.todo with
    | [] => s
    | t :: rest =>
      match a with
      | .error =>
        let s' : State := { s with jc.work := none }
        if w.owner.retries then s else s'.workFailed w.owner
      | .okay data =>
        let got := w.got ++ data.take t.returnSize
        match rest with
        | [] =>
          let s' : State := { s with jc.work := none }
          s'.workDone w.owner got
        | _ :: _ => { s with jc.work := some { owner := w.owner, todo := rest, got := got } }

/-- R155: the response to the transaction in flight: the port becomes free, an ERROR raises MEMORY_ERROR, and the owner acts. A
response that finds no transaction in flight is not taken (R161, log 3). -/
def State.memoryResponded (a : MemAnswer) (s : State) : State :=
  match s.port.inFlight with
  | none => s
  | some (c, _) =>
    let s0 : State := { s with port.inFlight := none }
    let s1 := s0.raiseIf (a == MemAnswer.error) .memoryError
    match c with
    | .request => s1.requestResponse a
    | .controller => s1.controllerResponse a

/-- MEMORY_RESPONSE (R155). -/
def execMemoryResponse (a : MemAnswer) (s : State) : Host.Outcome State Fault Refusal :=
  .next (s.event (State.memoryResponded a))

end Sys2Proof.Machine
end

