-- ==== Sys2Proof/Machine/Timers.lean ====
section
/-! DEFINITION. The commands that time brings: AUTO_COMMIT_EXPIRY (R80), RETIRE_SWEEP_END (R38), FULL_CLEAR_END (R39) and
STAMP_INCREMENT (R172). -/

namespace Sys2Proof.Machine

/-- R80: the auto-commit timer expires: with no pre-image it starts again, else a commit is taken, or the expiry is dropped while
the mark is set. Only a RUNNING timer expires. -/
def State.autoExpired (s : State) : State :=
  match s.jc.timer with
  | .idle => s
  | .paused _ => s
  | .running _ =>
    if (s.jc.epoch.map OpenEpoch.preImages).getD 0 = 0 then s.startTimer
    else if s.canCommit then s.takeCommit false
    else { s with jc.timer := .idle }

/-- AUTO_COMMIT_EXPIRY (R80). -/
def execAutoCommitExpiry (s : State) : Host.Outcome State Fault Refusal := .next (s.event State.autoExpired)

/-- R38, R40: the retire sweep's walk ends. -/
def State.retireEnded (s : State) : State :=
  match s.tags.activity with
  | .retiring r => { s with tags := { store := s.tags.store.retire r, activity := .idle, done := .gen r } }
  | .idle => s
  | .fullClear => s

/-- RETIRE_SWEEP_END (R38): the done mark becomes r, and a waiting open goes on (R41). -/
def execRetireSweepEnd (s : State) : Host.Outcome State Fault Refusal := .next (s.event State.retireEnded)

/-- R39, R40: the full clear ends. -/
def State.clearEnded (s : State) : State :=
  match s.tags.activity with
  | .fullClear => { s with tags := { store := .cleared, activity := .idle, done := .all } }
  | .idle => s
  | .retiring _ => s

/-- FULL_CLEAR_END (R39): the done mark becomes all, and a waiting open or format goes on (R41, R111, R149). -/
def execFullClearEnd (s : State) : Host.Outcome State Fault Refusal := .next (s.event State.clearEnded)

/-- STAMP_INCREMENT (R172): the counter rises by 1 and wraps; it stays 0 throughout PRST_N. -/
def execStampIncrement (s : State) : Host.Outcome State Fault Refusal :=
  .next (s.live fun s => { s with stamp := s.stamp + 1 })

end Sys2Proof.Machine
end

