-- ==== Sys2Proof/Machine/Dispatch.lean ====
section
/-! DEFINITION. What each command does: one arm for each constructor of `Instr`, in the order of the opcode table. -/

namespace Sys2Proof.Machine

/-- The effect of a command on everything but the queue of commands waiting. -/
def exec (i : Instr) (s : State) : Host.Outcome State Fault Refusal :=
  match i with
  | .powerUp straps prstLow pfwLow csLow raised => Sys2Proof.Machine.execPowerUp straps prstLow pfwLow csLow raised s
  | .prstAssert straps raised => Sys2Proof.Machine.execPrstAssert straps raised s
  | .prstWithdraw => Sys2Proof.Machine.execPrstWithdraw s
  | .requestAccept r => Sys2Proof.Machine.execRequestAccept r s
  | .holdExpiry => Sys2Proof.Machine.execHoldExpiry s
  | .memoryResponse a => Sys2Proof.Machine.execMemoryResponse a s
  | .commit => Sys2Proof.Machine.execCommit s
  | .autoCommitExpiry => Sys2Proof.Machine.execAutoCommitExpiry s
  | .lineQualify l => Sys2Proof.Machine.execLineQualify l s
  | .rollback target => Sys2Proof.Machine.execRollback target s
  | .discard upTo => Sys2Proof.Machine.execDiscard upTo s
  | .format => Sys2Proof.Machine.execFormat s
  | .clearDamage => Sys2Proof.Machine.execClearDamage s
  | .retireSweepEnd => Sys2Proof.Machine.execRetireSweepEnd s
  | .fullClearEnd => Sys2Proof.Machine.execFullClearEnd s
  | .haltBegin => Sys2Proof.Machine.execHaltBegin s
  | .haltEnd => Sys2Proof.Machine.execHaltEnd s
  | .stampIncrement => Sys2Proof.Machine.execStampIncrement s
  | .frameStart => Sys2Proof.Machine.execFrameStart s
  | .frameEnd => Sys2Proof.Machine.execFrameEnd s
  | .getStatus => Sys2Proof.Machine.execGetStatus s
  | .getIdentity => Sys2Proof.Machine.execGetIdentity s
  | .readEvents => Sys2Proof.Machine.execReadEvents s
  | .setEventMask value => Sys2Proof.Machine.execSetEventMask value s
  | .getOpenEpoch => Sys2Proof.Machine.execGetOpenEpoch s
  | .getDirectoryEntry k => Sys2Proof.Machine.execGetDirectoryEntry k s
  | .getReport => Sys2Proof.Machine.execGetReport s
  | .setPolicy selector value => Sys2Proof.Machine.execSetPolicy selector value s
  | .getPolicy => Sys2Proof.Machine.execGetPolicy s
  | .stageWindow slot base length mode => Sys2Proof.Machine.execStageWindow slot base length mode s
  | .clearWindow slot => Sys2Proof.Machine.execClearWindow slot s
  | .getWindow table slot => Sys2Proof.Machine.execGetWindow table slot s
  | .setStamp value => Sys2Proof.Machine.execSetStamp value s
  | .getStamp => Sys2Proof.Machine.execGetStamp s
  | .linkReset => Sys2Proof.Machine.execLinkReset s
  | .unknownCommand code => Sys2Proof.Machine.execUnknownCommand code s
  | .lineSamplingEvent ckpt fallback => Sys2Proof.Machine.execLineSamplingEvent ckpt fallback s
  | .bytePositionEnd mosi => Sys2Proof.Machine.execBytePositionEnd mosi s

end Sys2Proof.Machine
end

