-- ==== Sys2Proof/Machine/Step.lean ====
section
/-! DEFINITION. One step of the block: the command at the front of the queue is taken and carried out. -/

namespace Sys2Proof.Machine

/-- The command at the front of the queue is carried out on the state with the queue's rest; on an empty queue the block idles
(log 4). -/
def step (s : State) : Host.Outcome State Fault Refusal :=
  match s.pending with
  | [] => .next s
  | i :: rest => exec i { s with pending := rest }

/-- The state with the command that a table word spells put at the front of the queue; unchanged where it spells none (no row of the
table gives bits, so no word spells one). -/
def State.withFetchWord (s : State) (nbits w : Nat) : State :=
  match decodeTableWord nbits w with
  | none => s
  | some i => { s with pending := i :: s.pending }

end Sys2Proof.Machine
end

