-- ==== Sys2Proof/Safety.lean ====
section
/-! DEFINITION. What a state that the part can be in is like: the laws that every step keeps, each a test that can be evaluated, and
when a state is settled, with nothing left to do before the next event. -/

namespace Sys2Proof.Machine

/-- R21: the staged-differs flag says whether the two tables differ. -/
def State.flagExact (s : State) : Bool := s.windows.stagedDiffers == differ s.windows.staged s.windows.committed

/-- R2: the queue never holds more than 4 requests. -/
def State.queueBounded (s : State) : Bool := decide (s.front.queue.length ≤ 4)

/-- R104: the directory holds at most 15 entries. -/
def State.directoryBounded (s : State) : Bool := decide (s.jc.directory.length ≤ 15)

/-- R162, R163: between two events a run count is at most 15: a run that reaches 16 qualifies on the same event. -/
def Qualifier.bounded (q : Qualifier) : Bool := decide (q.run ≤ 15)

/-- R162: both qualifiers are in range. -/
def State.qualifiersBounded (s : State) : Bool := s.lines.ckpt.bounded && s.lines.fallback.bounded

/-- R178: with CS_N high, and throughout PRST_N, the frame decoder is IDLE. -/
def State.frameIdle (s : State) : Bool := s.link.csLow && !s.inReset || decide (s.link.pos = .idle)

/-- R79: where the auto-commit timer can stand. It runs only in OPEN and UNGUARDED with no halt, is paused only under halt or in
DISCARDING, and is IDLE throughout PRST_N. -/
def State.timerPlaced (s : State) : Bool :=
  match s.jc.timer with
  | .idle => true
  | .running _ => !s.inReset && (s.name == .opened || s.name == .unguarded) && !s.lines.halt
  | .paused _ => !s.inReset && (s.name == .discarding || (s.name == .opened || s.name == .unguarded) && s.lines.halt)

/-- R17: the hold timer runs only for a head that waits. -/
def State.holdPlaced (s : State) : Bool := s.front.holdTimer.isNone || !s.front.queue.isEmpty && !s.inProgress

/-- R32, R36: the generation field of the open-epoch record is the generation of its number. -/
def State.generationExact (s : State) : Bool :=
  match s.jc.epoch with
  | none => true
  | some e => e.generation == generationOf e.number.toNat

/-- R132: a report's end stamp and outcome are absent together. -/
def State.reportWhole (s : State) : Bool :=
  match s.events.report with
  | none => true
  | some r => r.finish.isSome == r.outcome.isSome

/-- R29, R171, R172, R174: throughout PRST_N the stamp is 0, the controller stays in ANCHOR_READ, and READY and EVT_N are
deasserted. -/
def State.quietReset (s : State) : Bool :=
  !s.inReset || s.stamp == 0 && s.name == .anchorRead && !s.ready && !s.evtAsserted

/-- R156: whether the request path has a transaction claimed or in flight. -/
def Port.reqOutstanding (p : Port) : Bool :=
  p.reqClaim.isSome || match p.inFlight with
    | some (.request, _) => true
    | some (.controller, _) => false
    | none => false

/-- R155, R156: neither claimant has a claim beside its transaction in flight. -/
def Port.single (p : Port) : Bool :=
  match p.inFlight with
  | none => true
  | some (.request, _) => p.reqClaim.isNone
  | some (.controller, _) => p.ctlClaim.isNone

/-- R158: while the port is free no claim waits. -/
def Port.busyWhileClaimed (p : Port) : Bool := p.inFlight.isSome || p.reqClaim.isNone && p.ctlClaim.isNone

/-- R3, R63, R155, R156, R158: the port's discipline. A transaction of the request path is outstanding exactly while a head is in
progress; a save is always for the head and holds while no transaction of the head's own is made. -/
def State.portDisciplined (s : State) : Bool :=
  s.port.single && s.port.busyWhileClaimed && (s.port.reqOutstanding == s.inProgress) &&
    (!s.inProgress || !s.front.queue.isEmpty) &&
    (decide (s.save = .idle) || decide (s.front.phase = .waiting) && !s.front.queue.isEmpty)

/-! ### The ring and the directory (R52, R55, R104) -/

/-- R52: the pre-images of the open epoch, 0 when the record is absent. -/
def State.openPreImages (s : State) : Nat := (s.jc.epoch.map OpenEpoch.preImages).getD 0

/-- R52: in each state in which the ring is in force, occupancy is the slots of the directory's entries and those of the open epoch:
its pre-images, and the COMMIT record that a scan found. While a commit or a recovery waits to open the next epoch the epoch before
it is closed or truncated, and counts no more. -/
def State.ringCounted (s : State) : Bool :=
  let listed := slotTotal s.jc.directory
  let withOpen := decide (s.jc.occupancy = listed + s.openPreImages)
  match s.jc.state with
  | .anchorRead => true
  | .unformatted => true
  | .recovering c =>
    match c.step with
    | .scan count _ => decide (s.openPreImages = count) && c.found.isNone && decide (listed + count < s.capacity)
    | .replay _ _ => decide (s.jc.occupancy = listed + s.openPreImages + c.commits) && decide (listed < s.capacity)
    | .tagWait _ => decide (s.jc.occupancy = listed)
    | .anchor _ => withOpen
  | .opened => withOpen
  | .unguarded => withOpen
  | .committing c =>
    match c.step with
    | .drain => withOpen
    | .record i => withOpen && decide (i.preImages = s.openPreImages)
    | .tagWait => decide (s.jc.occupancy = listed)
    | .anchor => withOpen
  | .rollingBack c =>
    match c.step with
    | .drain => withOpen
    | .intent => withOpen
    | .replay _ => withOpen
    | .tagWait => decide (s.jc.occupancy = listed)
    | .anchor => withOpen
  | .discarding c => withOpen && decide (c.freed = slotTotal (s.jc.directory.take c.count))
  | .formatting c =>
    match c.step with
    | .headWait => true
    | .scrub _ => true
    | .invalidate0 => true
    | .invalidate1 => true
    | .slot0 => true
    | .apply => withOpen
    | .clear => withOpen
  | .clearing c =>
    match c.step with
    | .headWait => true
    | .clear => s.jc.directory.isEmpty && decide (s.jc.occupancy = 0)
    | .apply => withOpen
    | .anchor => withOpen
  | .damaged _ => true

/-- R55: the states in which one slot stays free for the open epoch's COMMIT record, or for that of the epoch about to open. -/
def State.reserveHeld (s : State) : Bool :=
  match s.jc.state with
  | .anchorRead => false
  | .unformatted => false
  | .recovering c =>
    match c.step with
    | .scan _ _ => false
    | .replay _ _ => false
    | .tagWait _ => true
    | .anchor _ => true
  | .opened => true
  | .unguarded => true
  | .committing _ => true
  | .rollingBack _ => true
  | .discarding _ => true
  | .formatting c => c.step == .apply || c.step == .clear
  | .clearing c => c.step != .headWait
  | .damaged _ => false

/-- R52, R55: occupancy never exceeds capacity, and is below it while the reserve is held. -/
def State.ringBounded (s : State) : Bool :=
  decide (s.jc.occupancy ≤ s.capacity) && (!s.reserveHeld || decide (s.jc.occupancy < s.capacity))

/-- R104: entry numbers rise strictly, and every entry has at least its COMMIT record's slot. -/
def directoryRising (ds : List DirEntry) : Bool :=
  decide (ds.Pairwise fun x y => x.number < y.number) && ds.all fun d => decide (1 ≤ d.slots)

/-- R104: whether the directory may list the number of the open-epoch record itself: a commit or a roll-forward has appended the
epoch's entry and has not yet opened the next epoch. -/
def State.openListed (s : State) : Bool :=
  match s.jc.state with
  | .committing c => c.step == .tagWait
  | .recovering c => c.step == .tagWait .forward
  | _ => false

/-- R104: the directory rises, and lists epochs below the open one. -/
def State.directoryOrdered (s : State) : Bool :=
  directoryRising s.jc.directory &&
    match s.jc.epoch with
    | none => true
    | some e => s.jc.directory.all fun d => decide (d.number < e.number) || s.openListed && decide (d.number = e.number)

/-- R32, R119, R139: where the open-epoch record is present, and the number that an operation's context fixed is its number until
the next epoch opens. -/
def State.epochPlaced (s : State) : Bool :=
  let present := s.jc.epoch.isSome
  match s.jc.state with
  | .anchorRead => true
  | .unformatted => true
  | .recovering c =>
    match c.step with
    | .scan _ _ => present && decide (s.openNumber = c.openNumber)
    | .replay _ _ => present && decide (s.openNumber = c.openNumber)
    | .tagWait _ => present && decide (s.openNumber = c.openNumber)
    | .anchor _ => present
  | .opened => present
  | .unguarded => present
  | .committing _ => present
  | .rollingBack c => present && (c.step == .anchor || decide (s.openNumber = c.openNumber))
  | .discarding _ => present
  | .formatting c => present || !(c.step == .apply || c.step == .clear)
  | .clearing c => present || c.step == .headWait || c.step == .clear
  | .damaged _ => true

/-- R83, log 19: a commit that has not begun to write its record: it drains, or its record is built and waits for an update. -/
def CommitCtx.beforeWrites (c : CommitCtx) : Bool :=
  match c.step with
  | .drain => true
  | .record _ => true
  | .tagWait => false
  | .anchor => false

/-- R157: the transfer under way is one that the controller's state calls for, and an anchor update has the requester of that
state. -/
def State.workPlaced (s : State) : Bool :=
  match s.jc.work with
  | none => true
  | some w =>
    match w.owner, s.jc.state with
    | .anchorRead, .anchorRead => true
    | .scan, .recovering c =>
      match c.step with
      | .scan _ _ => true
      | .replay _ _ => false
      | .tagWait _ => false
      | .anchor _ => false
    | .replayRead, _ => (s.jc.state.walk.map fun x => decide (1 ≤ x.left)).getD false
    | .replayWrite, _ => (s.jc.state.walk.map fun x => decide (1 ≤ x.left)).getD false
    | .commitRecord, .committing c =>
      match c.step with
      | .record _ => s.jc.room.isNone
      | .drain => false
      | .tagWait => false
      | .anchor => false
    | .scrub, .formatting c =>
      match c.step with
      | .scrub _ => true
      | _ => false
    | .invalidate0, .formatting c => c.step == .invalidate0
    | .invalidate1, .formatting c => c.step == .invalidate1
    | .slot0, .formatting c => c.step == .slot0
    | .update, st =>
      match s.anchor.active with
      | none => false
      | some a =>
        match a.requester, st with
        | .reclaim, .opened => s.jc.room == some .reclaim
        | .reclaim, .committing c => s.jc.room == some .reclaim && c.beforeWrites
        | .reclaim, .rollingBack c => s.jc.room == some .reclaim && c.step == .drain
        | .unguard, .opened => s.jc.room == some .unguard
        | .unguard, .unguarded => s.jc.room == some .unguard
        | .unguard, .committing c => s.jc.room == some .unguard && c.beforeWrites
        | .unguard, .rollingBack c => s.jc.room == some .unguard && c.step == .drain
        | .unguard, .discarding _ => s.jc.room == some .unguard
        | .unguard, .formatting c => s.jc.room == some .unguard && c.step == .headWait
        | .commit, .committing c => c.step == .anchor
        | .intent, .rollingBack c => c.step == .intent
        | .completion, .rollingBack c => c.step == .anchor
        | .recovery, .recovering c =>
          match c.step with
          | .anchor _ => true
          | .scan _ _ => false
          | .replay _ _ => false
          | .tagWait _ => false
        | .discard, .discarding _ => s.jc.room.isNone
        | .clearing, .clearing c => c.step == .anchor
        | _, _ => false
    | _, _ => false

/-- R83, R120: once a commit or a rollback is past its first step no request in the queue is marked. -/
def State.drained (s : State) : Bool :=
  match s.jc.state with
  | .committing c => c.step == .drain || s.noneMarked
  | .rollingBack c => c.step == .drain || s.noneMarked
  | _ => true

/-- R55, R83, R120: where a save may stand. One past its free test has two slots free; in a commit or a rollback it is for a marked
head, in the first step; none is past its free test where the ring is being read, formatted or cleared. -/
def State.savePlaced (s : State) : Bool :=
  let active := match s.save with
    | .idle => false
    | .room _ _ => false
    | .read _ _ => true
    | .record .. => true
  let headMarked := match s.front.queue with
    | [] => false
    | e :: _ => e.marked
  (!active || decide (s.jc.occupancy + 2 ≤ s.capacity)) &&
    match s.jc.state with
    | .anchorRead => !active
    | .unformatted => !active
    | .recovering _ => !active
    | .opened => true
    | .unguarded => true
    | .committing c => decide (s.save = .idle) || c.step == .drain && headMarked
    | .rollingBack c => decide (s.save = .idle) || c.step == .drain && headMarked
    | .discarding _ => true
    | .formatting c => !active || c.step == .headWait
    | .clearing c => !active || c.step == .headWait
    | .damaged _ => true

/-- R52, R55, R104: the law of the ring and the directory, with what the controller's state, its transfer and the save must be for
every step to keep it. -/
def State.ringLawful (s : State) : Bool :=
  s.ringCounted && s.ringBounded && s.directoryOrdered && s.epochPlaced && s.workPlaced && s.drained && s.savePlaced

/-- R97, R104: what an anchor that a 2410 wrote holds, for a ring of `cap` slots. -/
def Anchor.genuine (cap : Nat) (a : Anchor) : Bool :=
  directoryRising a.directory && (a.directory.all fun d => decide (d.number < a.openNumber)) &&
    decide (slotTotal a.directory < cap) && decide (a.occupancy ≤ cap)

/-- Log 18: whether the bytes that answer the transaction in flight are, where they complete the anchor read, no anchor or one that a
2410 wrote, and, where they complete a scanned record, no COMMIT record or one that counts the pre-images before it (R48). -/
def State.readsGenuine (data : List Byte) (s : State) : Bool :=
  match s.jc.work with
  | none => true
  | some w =>
    match w.todo with
    | [] => true
    | _ :: _ :: _ => true
    | [t] =>
      let bytes := w.got ++ data.take t.returnSize
      match s.jc.state with
      | .anchorRead =>
        match newestAnchor (validAnchor .slot0 s.jbase s.jsize (bytes.take 512))
            (validAnchor .slot1 s.jbase s.jsize (bytes.drop 512)) with
        | none => true
        | some (_, a) => a.genuine s.capacity
      | .recovering c =>
        match c.step with
        | .scan count slot =>
          match validRecord slot s.anchor.format ((s.jc.epoch.map OpenEpoch.firstSeq).getD 0 + BitVec.ofNat 32 count)
              c.openNumber c.openNumber bytes with
          | none => true
          | some r =>
            match r.body with
            | .preImage _ _ => true
            | .commit i => i.preImages == count
        | .replay _ _ => true
        | .tagWait _ => true
        | .anchor _ => true
      | _ => true

/-- A state in which no step inside an event is left, no claim of the controller is to be raised, and no grant is to be made. -/
def State.settled (s : State) : Bool :=
  s.internalStep.isNone && decide (s.raiseCtlClaim = s) && s.port.busyWhileClaimed

end Sys2Proof.Machine
end

