-- ==== Sys2Proof/WellFormed.lean ====
section
/-! DEFINITION. Which commands are well formed: the data of a request and of a memory answer have the sizes of R1 and R154,
and an unknown command's byte is one R190 does not list. -/

namespace Sys2Proof

/-- R1: a WORD WRITE carries 4 bytes and a GRANULE WRITE 32. -/
def Request.wellFormed : Request → Bool
  | .wordRead _ => true
  | .wordWrite _ data _ => data.length == 4
  | .granuleRead _ => true
  | .granuleWrite _ data => data.length == 32

/-- R154: an OKAY answer carries no bytes (a write), 4 bytes (a word read) or 32 bytes (a granule read). -/
def MemAnswer.wellFormed : MemAnswer → Bool
  | .okay data => data.length == 0 || data.length == 4 || data.length == 32
  | .error => true

/-- A command as the outside can send it. -/
def Instr.wellFormed : Instr → Bool
  | .requestAccept r => r.wellFormed
  | .memoryResponse a => a.wellFormed
  | .unknownCommand code => (commandShape code).isNone
  | .powerUp .. => true
  | .prstAssert .. => true
  | .prstWithdraw => true
  | .holdExpiry => true
  | .commit => true
  | .autoCommitExpiry => true
  | .lineQualify .. => true
  | .rollback _ => true
  | .discard _ => true
  | .format => true
  | .clearDamage => true
  | .retireSweepEnd => true
  | .fullClearEnd => true
  | .haltBegin => true
  | .haltEnd => true
  | .stampIncrement => true
  | .frameStart => true
  | .frameEnd => true
  | .getStatus => true
  | .getIdentity => true
  | .readEvents => true
  | .setEventMask _ => true
  | .getOpenEpoch => true
  | .getDirectoryEntry _ => true
  | .getReport => true
  | .setPolicy .. => true
  | .getPolicy => true
  | .stageWindow .. => true
  | .clearWindow _ => true
  | .getWindow .. => true
  | .setStamp _ => true
  | .getStamp => true
  | .linkReset => true
  | .lineSamplingEvent .. => true
  | .bytePositionEnd _ => true

end Sys2Proof
end

