-- ==== Sys2Proof/Certificates/Slice0/Obligations.lean ====
section
/-! DEFINITION. The statements for the provers, in the order of OBLIGATIONS.json. An event's own effect is stated before what comes
about inside the event afterwards: `exec c s = next (t.finish s.claimWaits)`, where t is the state the rule gives. -/

open Sys2Proof Sys2Proof.Machine

/-! ### The interface -/

/-- Log 4: a step runs the command at the front of the queue on the state with the queue's rest, and an empty queue idles. -/
def Obligations.StepRunsTheFrontCommand : Prop :=
  (∀ (c : Instr) (rest : List Instr) (s : State), step { s with pending := c :: rest } = exec c { s with pending := rest }) ∧
    ∀ s : State, s.pending = [] → step s = .next s

/-- R28, R160, R179: no command stops the part, and none touches the commands waiting behind it. -/
def Obligations.EveryCommandAnswersANextState : Prop :=
  ∀ (c : Instr) (s : State), ∃ t : State, exec c s = .next t ∧ t.pending = s.pending

/-- Log 26: inside an event the steps come to an end: after settling no step is left. -/
def Obligations.EventsRunToTheirEnd : Prop :=
  ∀ s : State, s.settle.internalStep = none

/-- What comes about inside an event leaves the straps, the pins, the stamp, the event mask, the policies, the frame, the tag
entries and the qualifiers as they were, and only adds to the responses. -/
def Obligations.InsideAnEventTheseStay : Prop :=
  ∀ (s : State) (w : Bool), (s.finish w).pending = s.pending ∧ (s.finish w).jbase = s.jbase ∧ (s.finish w).jsize = s.jsize ∧
    (s.finish w).inReset = s.inReset ∧ (s.finish w).lines.halt = s.lines.halt ∧ (s.finish w).lines.ckpt = s.lines.ckpt ∧
    (s.finish w).lines.fallback = s.lines.fallback ∧ (s.finish w).stamp = s.stamp ∧ (s.finish w).events.mask = s.events.mask ∧
    (s.finish w).link.policies = s.link.policies ∧ (s.finish w).link.pos = s.link.pos ∧ (s.finish w).link.csLow = s.link.csLow ∧
    (s.finish w).link.answer = s.link.answer ∧ (s.finish w).tags.store = s.tags.store ∧
    s.front.responses <+: (s.finish w).front.responses

/-! ### Power and reset -/

/-- R29, R43, R137, R161 and the reset values of every block: what POWER_UP leaves, whatever the state before (its operands and
the clocks' start are log 9, the zero pointers log 11). R173: a raise taken before the reset is lost, and one that falls on the event
and is taken after it leaves its flag set (the operand is log 31). With nothing presented the queue is empty, and the port holds
nothing but the anchor read's first read, which is made when PRST_N and PFW_N are high. R137, R167: when PRST_N is withdrawn the
anchor read begins with the GRANULE READ of the region's first granule, of 32 in ascending order; under halt no read is issued. -/
def Obligations.PowerUpAndWithdrawalBeginTheAnchorRead : Prop :=
  (∀ (jb : BitVec 4) (js : BitVec 3) (prst pfw cs : Bool) (raised : BitVec 12) (s : State), ∃ t : State,
    exec (.powerUp { jbase := jb, jsize := js } prst pfw cs raised) s = .next t ∧
    t.jbase = jb ∧ t.jsize = js ∧ t.inReset = prst ∧ t.lines.halt = pfw ∧ t.link.csLow = cs ∧
    t.jc.state = .anchorRead ∧ t.jc.epoch = none ∧ t.jc.directory = [] ∧ t.jc.timer = .idle ∧ t.jc.room = none ∧
    t.jc.windowLost = false ∧ t.save = .idle ∧ t.front.holdTimer = none ∧ t.front.phase = .waiting ∧
    t.windows = { committed := emptyTable, staged := emptyTable, stagedDiffers := false } ∧
    t.tags.activity = .idle ∧ t.tags.done = .absent ∧ t.anchor = { active := none, newest := none, format := 0 } ∧
    t.lines.ckpt = { asserted := false, run := 0 } ∧ t.lines.fallback = { asserted := false, run := 0 } ∧
    t.lines.ckptLatch = false ∧ t.lines.fallbackLatch = false ∧
    t.stamp = 0 ∧ t.events.flags = raised ∧ t.events.mask = 0x2EE ∧ t.events.capture = none ∧ t.events.report = none ∧
    t.link.pos = .idle ∧ t.link.answer = none ∧ t.link.lastOp = none ∧ t.link.lastResult = .none ∧
    t.link.policies = { reclaim := true, autoCommit := 0, holdLimit := 0, qualify := 3 } ∧
    (s.front.presented = [] →
      t.front = { presented := [], queue := [], phase := .waiting, holdTimer := none, holdReason := none,
                  responses := s.front.responses } ∧
      t.jc.work = (if prst then none
        else some { owner := .anchorRead, todo := anchorReads (4194304 * jb.toNat), got := [] }) ∧
      t.port =
        { reqClaim := none
          ctlClaim := none
          inFlight := if prst || pfw then none else some (.controller, .granuleRead (BitVec.ofNat 26 (4194304 * jb.toNat)))
          lastGrant := .controller
          met := false })) ∧
  (∀ s : State, s.jc.state = .anchorRead → s.jc.work = none → s.front.phase = .waiting → s.save = .idle →
    s.port.reqClaim = none → s.port.ctlClaim = none → s.port.inFlight = none →
    ∃ t : State, exec .prstWithdraw s = .next t ∧ t.inReset = false ∧ t.jc.state = .anchorRead ∧
      t.jc.work = some { owner := .anchorRead, todo := anchorReads s.base, got := [] } ∧
      t.port.inFlight =
        if s.lines.halt then none else some (.controller, .granuleRead (BitVec.ofNat 26 (4194304 * s.jbase.toNat))))

/-- R6, R29, R161: PRST_N_ASSERT empties the queue, the claims and the controller, and leaves what is not the part's: the
commands waiting, the requests presented, the responses already returned (log 16, 17) and the levels of PFW_N and CS_N. R173, R174:
every flag is clear but those whose raise is taken after the reset on the same event (log 31), and EVT_N is deasserted. The straps
are the command's operand (the model's choice, log 9). That tail, head, occupancy and the next sequence number, which R29 and R54
call undefined after a reset, hold 0 is the model's choice, unsafe (log 11). Log 10: while PRST_N is held asserted no event but the
pins' has an effect (the model's own reading of R29, R162 and R172): PFW_N and CS_N are followed as levels, and a request presented is
only kept presented (log 10, 17). -/
def Obligations.ResetEmptiesAndHoldsThePart : Prop :=
  (∀ (jb : BitVec 4) (js : BitVec 3) (raised : BitVec 12) (s : State), ∃ t : State,
    exec (.prstAssert { jbase := jb, jsize := js } raised) s = .next t ∧
    t.inReset = true ∧ t.jbase = jb ∧ t.jsize = js ∧ t.front.queue = [] ∧ t.front.phase = .waiting ∧ t.front.holdTimer = none ∧
    t.save = .idle ∧ t.jc = State.reset.jc ∧ t.anchor = State.reset.anchor ∧ t.windows = State.reset.windows ∧
    t.port.reqClaim = none ∧ t.port.ctlClaim = none ∧ t.port.inFlight = none ∧ t.port.lastGrant = .controller ∧
    t.stamp = 0 ∧ t.events = { State.reset.events with flags := raised, raisedSince := raised } ∧ t.evtAsserted = false ∧
    t.ready = false ∧ t.tags.activity = .idle ∧ t.tags.done = .absent ∧
    t.lines = { State.reset.lines with halt := s.lines.halt } ∧ t.link = { State.reset.link with csLow := s.link.csLow } ∧
    t.front.presented = s.front.presented ∧ t.front.responses = s.front.responses ∧ t.pending = s.pending) ∧
  (∀ s : State, s.inReset = true →
    (∀ a, exec (.memoryResponse a) s = .next s) ∧ exec .holdExpiry s = .next s ∧ exec .autoCommitExpiry s = .next s ∧
    (∀ l, exec (.lineQualify l) s = .next s) ∧ (∀ a b, exec (.lineSamplingEvent a b) s = .next s) ∧
    exec .retireSweepEnd s = .next s ∧ exec .fullClearEnd s = .next s ∧ exec .stampIncrement s = .next s ∧
    (∀ b, exec (.bytePositionEnd b) s = .next s) ∧ exec .commit s = .next s ∧ (∀ c, exec (.rollback c) s = .next s) ∧
    (∀ e, exec (.discard e) s = .next s) ∧ exec .format s = .next s ∧ exec .clearDamage s = .next s ∧
    exec .linkReset s = .next s ∧ (∀ v, exec (.setStamp v) s = .next s) ∧ exec .readEvents s = .next s ∧
    exec .getStatus s = .next s ∧ exec .getIdentity s = .next s ∧ (∀ v, exec (.setEventMask v) s = .next s) ∧
    exec .getOpenEpoch s = .next s ∧ (∀ k, exec (.getDirectoryEntry k) s = .next s) ∧ exec .getReport s = .next s ∧
    (∀ k v, exec (.setPolicy k v) s = .next s) ∧ exec .getPolicy s = .next s ∧
    (∀ slot base length mode, exec (.stageWindow slot base length mode) s = .next s) ∧
    (∀ slot, exec (.clearWindow slot) s = .next s) ∧ (∀ table slot, exec (.getWindow table slot) s = .next s) ∧
    exec .getStamp s = .next s ∧ (∀ code, exec (.unknownCommand code) s = .next s) ∧
    (∀ r, exec (.requestAccept r) s = .next { s with front.presented := s.front.presented ++ [r] }) ∧
    exec .haltBegin s = .next { s with lines.halt := true } ∧ exec .haltEnd s = .next { s with lines.halt := false } ∧
    exec .frameStart s = .next { s with link.csLow := true } ∧ exec .frameEnd s = .next { s with link.csLow := false })

/-! ### The front port -/

/-- R2: a request presented behind others is accepted, unmarked, at the queue's end while the queue holds fewer than 4, and is
kept presented while it holds 4; nothing else changes. That during PRST_N it is kept presented and not accepted, and that what is
kept presented stands in a list, is the model's own (log 10, 17). R2: a request kept presented is accepted, unmarked, at the queue's
end, once an entry has left a full queue: a presented request and a queue with room is a step still to be made, so at the end of an
event none is left presented beside such a queue; and what comes about inside an event takes requests from the front of queue and list
together, one for each response, and keeps all others in their order. R9, R10, R158: a plain request, or a
frozen read, that becomes the head at once is performed with one transaction of its own kind, granted on the same event when the
port is free. -/
def Obligations.ARequestIsAcceptedAndPerformed : Prop :=
  ((∀ (r : Request) (s : State), s.inReset = false → s.settled = true → s.front.queue ≠ [] → s.front.presented = [] →
    exec (.requestAccept r) s =
      .next (if s.front.queue.length < 4 then { s with front.queue := s.front.queue ++ [{ req := r, marked := false }] }
        else { s with front.presented := [r] })) ∧
    ∀ (r : Request) (s : State), s.inReset = true →
      exec (.requestAccept r) s = .next { s with front.presented := s.front.presented ++ [r] }) ∧
  (∀ (r : Request) (s : State), s.inReset = false → s.settled = true → s.front.queue = [] → s.front.presented = [] →
    s.front.phase = .waiting → s.save = .idle → s.lines.halt = false → r.emptyMask = false →
    s.name ≠ .anchorRead → s.name ≠ .committing →
    (classOf s.jbase s.jsize s.windows.committed r.granule = .plain ∨
      classOf s.jbase s.jsize s.windows.committed r.granule = .frozen ∧ r.isWrite = false) →
    s.port.inFlight = none →
    exec (.requestAccept r) s = .next
      { s with
        front.queue := [{ req := r, marked := false }]
        front.phase := .performing false
        front.holdTimer := none
        front.holdReason := none
        port.inFlight := some (.request, r.aligned)
        port.lastGrant := .request }) ∧
  (∀ (s : State) (r : Request) (rest : List Request), s.front.presented = r :: rest →
    (s.front.queue.length < 4 → s.acceptStep = some
      { s with front.presented := rest, front.queue := s.front.queue ++ [{ req := r, marked := false }] }) ∧
    (4 ≤ s.front.queue.length → s.acceptStep = none) ∧ (s.headStep = none → s.frontStep = s.acceptStep)) ∧
  (∀ s : State, s.internalStep = none → s.front.presented = [] ∨ 4 ≤ s.front.queue.length) ∧
  ∀ (s : State) (w : Bool), ∃ k : Nat, (s.finish w).front.responses.length = s.front.responses.length + k ∧
    (s.finish w).front.queue.map Entry.req ++ (s.finish w).front.presented =
      (s.front.queue.map Entry.req ++ s.front.presented).drop k

/-- The table at the end of section 1.3 (R9 to R16): what is done with a head that is no empty-mask write and is not under halt.
R58, R60, R61: a journaled write of a broken epoch waits, as one that would go to the save unit does, while the update of an
unguard or reclaim made for an earlier head still runs (in UNGUARDED and a DISCARDING taken from it, log 19). R9, R12, R74: a head
that is performed, as a plain request, a frozen or journaled read, or a journaled write of a broken epoch, raises the claim of one
transaction of its own kind, which stops the hold timer, and only a journaled write will be counted. R12: a journaled write in
DAMAGED is answered DAMAGED with no transaction, no count and no event. R7, R43: the class of a granule: JOURNAL REGION from the
region's first granule up to but not including the one behind its last; outside it the mode of the window that holds the granule,
from base up to but not including base plus length, in a table in which no other window holds it (R20); and PLAIN where none does.
-/
def Obligations.RequestsByClassAndState : Prop :=
  (∀ (s : State) (e : Entry), s.lines.halt = false → e.req.emptyMask = false →
    (s.name = .anchorRead → s.headAction e = .wait .anchorRead) ∧
    (s.name = .committing → e.marked = false → s.headAction e = .wait .commitPoint) ∧
    (s.name ≠ .anchorRead → (s.name ≠ .committing ∨ e.marked = true) →
      match classOf s.jbase s.jsize s.windows.committed e.req.granule with
      | .journalRegion => s.headAction e = .answer .refused e.req.isWrite
      | .plain => s.headAction e = .perform false
      | .frozen => s.headAction e = if e.req.isWrite then .answer .refused true else .perform false
      | .journaled =>
        (s.name = .recovering → s.headAction e = .wait .recovering) ∧
        (s.name = .formatting → s.headAction e = .wait .formatting) ∧
        (s.name = .clearing → s.headAction e = .wait .clearing) ∧
        (s.name = .rollingBack → e.marked = false → s.headAction e = .wait .rollingBack) ∧
        (s.name = .damaged → s.headAction e = if e.req.isWrite then .answer .damaged false else .perform false) ∧
        (s.name = .unguarded → s.headAction e =
          if e.req.isWrite then (if s.jc.room.isSome then .wait .room else .perform true) else .perform false) ∧
        (s.name = .discarding → e.req.isWrite = false → s.headAction e = .perform false) ∧
        (∀ c, s.jc.state = .discarding c → e.req.isWrite = true →
          s.headAction e =
            if c.fromUnguarded then (if s.jc.room.isSome then .wait .room else .perform true) else .save) ∧
        (s.name = .opened ∨ s.name = .committing ∨ s.name = .rollingBack ∧ e.marked = true →
          s.headAction e =
            if e.req.isWrite then
              (if s.jc.room.isSome then .wait .room else if s.openBroken then .perform true else .save)
            else .perform false))) ∧
  (∀ (s : State) (e : Entry) (rest : List Entry), s.front.queue = e :: rest → s.inProgress = false → s.save = .idle →
    s.lines.halt = false →
    (∀ counts, s.headAction e = .perform counts → s.headStep = some
      { s with
        front.phase := .performing counts
        front.holdTimer := none
        front.holdReason := none
        port.reqClaim := some e.req.aligned }) ∧
    (s.headAction e = .answer .damaged false → s.headStep = some
      { s with
        front.queue := rest
        front.phase := .waiting
        front.holdTimer := none
        front.holdReason := none
        front.responses :=
          s.front.responses ++ [{ status := .damaged, data := List.replicate e.req.returnSize 0xFF }] })) ∧
  (∀ (jb : BitVec 4) (js : BitVec 3) (table : WindowTable) (g : Nat),
    let first := 131072 * jb.toNat
    let behind := 131072 * jb.toNat + 1024 * 2 ^ js.toNat
    let held := fun w : Window => w.base ≤ g ∧ g < w.base + w.length
    (first ≤ g → g < behind → classOf jb js table g = .journalRegion) ∧
    (g < first ∨ behind ≤ g →
      (∀ (i : Nat) (w : Window), table[i]? = some (some w) → held w →
        (∀ j v, j ≠ i → table[j]? = some (some v) → ¬held v) →
        classOf jb js table g = match w.mode with
          | .journaled => .journaled
          | .frozen => .frozen) ∧
      ((∀ (i : Nat) (w : Window), table[i]? = some (some w) → ¬held w) → classOf jb js table g = .plain)))

/-- R10, R11: a write to a FROZEN window, and any access to the journal region, is answered REFUSED with no transaction; a read
returns all ones; only a write raises REFUSED. Nothing but the queue, its head's response and that flag changes. -/
def Obligations.RefusedRequests : Prop :=
  ∀ (s : State) (e : Entry) (rest : List Entry), s.front.queue = e :: rest → s.inProgress = false → s.save = .idle →
    s.lines.halt = false → e.req.emptyMask = false → s.name ≠ .anchorRead → (s.name ≠ .committing ∨ e.marked = true) →
    (classOf s.jbase s.jsize s.windows.committed e.req.granule = .journalRegion ∨
      classOf s.jbase s.jsize s.windows.committed e.req.granule = .frozen ∧ e.req.isWrite = true) →
    s.headStep = some
      { s with
        front.queue := rest
        front.phase := .waiting
        front.holdTimer := none
        front.holdReason := none
        front.responses :=
          s.front.responses ++ [{ status := .refused, data := List.replicate e.req.returnSize 0xFF }]
        events.flags := if e.req.isWrite then s.events.flags ||| 0x100 else s.events.flags
        events.raisedSince := if e.req.isWrite then s.events.raisedSince ||| 0x100 else s.events.raisedSince }

/-- R5: an empty-mask write at the head is answered OKAY, under halt HALTED, in every state: it is not classified, makes no
transaction and no save, starts no timer, counts nothing and raises no event. -/
def Obligations.EmptyMaskWritesAreAnsweredAtOnce : Prop :=
  ∀ (s : State) (e : Entry) (rest : List Entry), s.front.queue = e :: rest → s.inProgress = false → s.save = .idle →
    e.req.emptyMask = true →
    s.headStep = some
      { s with
        front.queue := rest
        front.phase := .waiting
        front.holdTimer := none
        front.holdReason := none
        front.responses := s.front.responses ++ [{ status := if s.lines.halt then .halted else .okay, data := [] }] }

/-- R64, R65, R71: a write given to the save unit: with its granule's tag equal to the open generation the write itself is
claimed; else with free at least 2 the granule read is claimed; else the save enters ROOM, the head waits, and, but for DISCARDING,
room is asked for in the same examination (ASaveAsksForRoom says what asking does). R17: the head that enters ROOM starts the hold
timer with the limit in force, unless the timer runs already or the limit is 0. R20: the tag entry of a granule of a JOURNALED window
is the window's tag base, the sum of the lengths of the JOURNALED windows in lower-numbered slots, plus the granule's distance from
the window's base, where no other JOURNALED window holds the granule; it lies below the lengths of all of them together; and where no
two windows share a granule, two granules of JOURNALED windows never share an entry. -/
def Obligations.AWriteGoesToTheSaveUnit : Prop :=
  (∀ (s : State) (e : Entry) (rest : List Entry), s.front.queue = e :: rest → s.inProgress = false → s.save = .idle →
    s.lines.halt = false → s.headAction e = .save →
    let entered : State :=
      { s with
        front.holdReason := some .room
        front.holdTimer :=
          if s.front.holdTimer = none ∧ s.link.policies.holdLimit ≠ 0 then some s.link.policies.holdLimit
          else s.front.holdTimer
        save := .room e.req.granule (tagEntry s.windows.committed e.req.granule) }
    ∃ t : State, s.headStep = some t ∧ t.front.queue = s.front.queue ∧ t.tags = s.tags ∧
      (s.tags.store.read (tagEntry s.windows.committed e.req.granule) = s.openGeneration → t.jc = s.jc ∧
        t.port.reqClaim = some e.req.aligned ∧ t.front.phase = .performing true ∧ t.save = .idle ∧ t.front.holdTimer = none) ∧
      (s.tags.store.read (tagEntry s.windows.committed e.req.granule) ≠ s.openGeneration → 2 ≤ s.free → t.jc = s.jc ∧
        t.port.reqClaim = some (.granuleRead (BitVec.ofNat 26 (e.req.granule * 32))) ∧ t.front.phase = .waiting ∧
          t.save = .read e.req.granule (tagEntry s.windows.committed e.req.granule) ∧ t.front.holdTimer = none) ∧
      (s.tags.store.read (tagEntry s.windows.committed e.req.granule) ≠ s.openGeneration → s.free < 2 →
        t.port = s.port ∧ t.save = entered.save ∧ t.front = entered.front ∧
          (s.name = .discarding → t = entered) ∧
          (s.name ≠ .discarding →
            entered.roomStep e.req.granule (tagEntry s.windows.committed e.req.granule) = some t))) ∧
  (∀ (table : WindowTable) (i g : Nat) (w : Window), table[i]? = some (some w) → w.mode = .journaled → w.base ≤ g →
    g < w.base + w.length →
    (∀ j v, j ≠ i → table[j]? = some (some v) → v.mode = .journaled → ¬(v.base ≤ g ∧ g < v.base + v.length)) →
    let lengths := fun slots : WindowTable => (slots.map fun
      | none => 0
      | some v => match v.mode with
        | .journaled => v.length
        | .frozen => 0).sum
    tagEntry table g = lengths (table.take i) + (g - w.base) ∧ tagEntry table g < lengths table) ∧
  (∀ (table : WindowTable) (i j g h : Nat) (v w : Window),
    (∀ (m n : Nat) (x y : Window), m ≠ n → table[m]? = some (some x) → table[n]? = some (some y) →
      x.base + x.length ≤ y.base ∨ y.base + y.length ≤ x.base) →
    table[i]? = some (some v) → v.mode = .journaled → v.base ≤ g → g < v.base + v.length →
    table[j]? = some (some w) → w.mode = .journaled → w.base ≤ h → h < w.base + w.length →
    tagEntry table g = tagEntry table h → g = h)

/-- R17, R19: a head that begins to wait for a hold reason starts the idle hold timer with the limit in force, unless the limit
is 0; a running timer goes on (the reason kept is log 21). R18: when the hold timer expires the waiting head is answered HELD,
all ones for a read, HELD_OUT is raised and a save in ROOM ends; where no timer runs for a waiting head nothing expires. -/
def Obligations.TheHoldTimerStartsAndExpires : Prop :=
  (∀ (s : State) (e : Entry) (rest : List Entry) (r : HoldReason), s.front.queue = e :: rest → s.inProgress = false →
    s.save = .idle → s.lines.halt = false → s.headAction e = .wait r → s.front.holdReason ≠ some r →
    s.headStep = some
      { s with
        front.holdReason := some r
        front.holdTimer :=
          if s.front.holdTimer = none ∧ s.link.policies.holdLimit ≠ 0 then some s.link.policies.holdLimit
          else s.front.holdTimer }) ∧
  ((∀ (s : State) (e : Entry) (rest : List Entry), s.inReset = false → s.front.queue = e :: rest →
    s.front.holdTimer.isSome = true → s.inProgress = false →
    exec .holdExpiry s = .next (State.finish s.claimWaits
      { s with
        front.queue := rest
        front.phase := .waiting
        front.holdTimer := none
        front.holdReason := none
        front.responses := s.front.responses ++ [{ status := .held, data := List.replicate e.req.returnSize 0xFF }]
        save := .idle
        events.flags := s.events.flags ||| 0x200
        events.raisedSince := s.events.raisedSince ||| 0x200 })) ∧
    ∀ s : State, s.inReset = false → s.holdRunning = false → exec .holdExpiry s = .next (s.finish s.claimWaits))

/-! ### Memory's answers on the request path -/

/-- R9, R12, R34, R70: memory answers OKAY to the head's own transaction: the head is answered OKAY, with the bytes memory gave
for a read; a journaled write raises the open epoch's write count by 1, up to its highest value; that it does so too when a DISCARD's
failed update has sent the controller to DAMAGED meanwhile is the model's choice (log 36). R66, R68, R70, R160: memory
answers ERROR to any transaction made for the head, its save's among them: the head is answered MEMORY, MEMORY_ERROR is raised
and the save ends; pointers, counts, sequence and tags keep their values. -/
def Obligations.MemoryAnswersTheHead : Prop :=
  (∀ (s : State) (e : Entry) (rest : List Entry) (counts : Bool) (r : Request) (data : List Byte), s.inReset = false →
    s.port.inFlight = some (.request, r) → s.front.queue = e :: rest → s.front.phase = .performing counts → s.save = .idle →
    exec (.memoryResponse (.okay data)) s = .next (State.finish s.claimWaits
      { s with
        port.inFlight := none
        front.queue := rest
        front.phase := .waiting
        front.holdTimer := none
        front.holdReason := none
        front.responses := s.front.responses ++ [{ status := .okay, data := data.take e.req.returnSize }]
        jc.epoch := if counts then s.jc.epoch.map fun ep =>
            { ep with writes := if ep.writes = 0xFFFFFFFF then 0xFFFFFFFF else ep.writes + 1 }
          else s.jc.epoch })) ∧
  (∀ (s : State) (e : Entry) (rest : List Entry) (r : Request), s.inReset = false → s.port.inFlight = some (.request, r) →
    s.front.queue = e :: rest → s.inProgress = true →
    exec (.memoryResponse .error) s = .next (State.finish s.claimWaits
      { s with
        port.inFlight := none
        front.queue := rest
        front.phase := .waiting
        front.holdTimer := none
        front.holdReason := none
        front.responses := s.front.responses ++ [{ status := .memory, data := List.replicate e.req.returnSize 0xFF }]
        save := .idle
        events.flags := s.events.flags ||| 0x080
        events.raisedSince := s.events.raisedSince ||| 0x080 }))

/-- R45, R66, R67: the save's granule read is answered OKAY: the PRE-IMAGE record is built from the 32 bytes, for the slot at
head, with the format number, the open epoch's number and the next sequence number, and its first write is claimed. R45, R67: a
write of the record answered OKAY leads to the claim of the next; the fifth moves head, occupancy, sequence number, pre-image
count and tag together and releases the write: its own transaction is claimed, and its OKAY will be counted. -/
def Obligations.ASaveWritesItsRecordThenReleasesTheWrite : Prop :=
  (∀ (s : State) (r : Request) (g t : Nat) (data : List Byte), s.inReset = false → s.port.inFlight = some (.request, r) →
    s.save = .read g t →
    ∃ (w : Request) (left : List Request), recordWrites s.base s.jc.head
        (Record.encode s.jc.head
          { format := s.anchor.format, epoch := s.openNumber, seq := s.jc.nextSeq, body := .preImage g (data.take 32) }) = w :: left ∧
      left.length = 4 ∧
      exec (.memoryResponse (.okay data)) s = .next (State.finish s.claimWaits
        { s with
          port.inFlight := none
          port.reqClaim := some w
          save := .record g t (data.take 32)
            (Record.encode s.jc.head
              { format := s.anchor.format, epoch := s.openNumber, seq := s.jc.nextSeq, body := .preImage g (data.take 32) })
            left })) ∧
  ((∀ (s : State) (r w : Request) (g t : Nat) (p b : List Byte) (left : List Request) (data : List Byte), s.inReset = false →
    s.port.inFlight = some (.request, r) → s.save = .record g t p b (w :: left) →
    exec (.memoryResponse (.okay data)) s = .next (State.finish s.claimWaits
      { s with port.inFlight := none, port.reqClaim := some w, save := .record g t p b left })) ∧
    ∀ (s : State) (r : Request) (e : Entry) (rest : List Entry) (g t : Nat) (p b data : List Byte), s.inReset = false →
      s.port.inFlight = some (.request, r) → s.front.queue = e :: rest → s.save = .record g t p b [] →
      exec (.memoryResponse (.okay data)) s = .next (State.finish s.claimWaits
        { s with
          port.inFlight := none
          port.reqClaim := some e.req.aligned
          front.phase := .performing true
          front.holdTimer := none
          front.holdReason := none
          save := .idle
          jc.head := if s.jc.head + 1 = s.capacity then 0 else s.jc.head + 1
          jc.occupancy := s.jc.occupancy + 1
          jc.nextSeq := s.jc.nextSeq + 1
          jc.epoch := s.jc.epoch.map fun ep => { ep with preImages := ep.preImages + 1 }
          tags.store := s.tags.store.set t s.openGeneration }))

/-- R158, R160, R161: a response of the request path changes nothing of the controller's claim and operation; a response of the
controller leaves a request in progress with its claim, its save and its place; and a response that finds no transaction in flight
is not taken (log 3). R158: when both claimants hold a claim at a free port and one of them waited before the event, the one that
is not the last grant is granted; a claimant that waits alone is granted. That this alternation also decides a first meeting for
which a claim of the controller has waited behind a lone grant of the request path, where the letter of R161 grants the request
path, is the model's choice (log 14). R161: of two claims raised on one event the request path is granted first as long as it has
not been granted at a meeting since the reset, whatever the last grant; R158: later either of the two may be. R45, R100, R137,
R159: memory answers OKAY to a transaction of the controller that is not the last of its transfer: the transfer goes on to the
next with the bytes read kept. R156, R170: with no halt in force and no transaction of its own outstanding the controller claims
the first transaction left of its transfer. -/
def Obligations.ThePortServesItsClaimants : Prop :=
  ((∀ (a : MemAnswer) (s : State), s.inReset = false → s.port.inFlight = none →
    exec (.memoryResponse a) s = .next (s.finish s.claimWaits)) ∧
    (∀ (a : MemAnswer) (s : State) (r : Request), s.port.inFlight = some (.request, r) →
      (s.memoryResponded a).port.ctlClaim = s.port.ctlClaim ∧ (s.memoryResponded a).jc.work = s.jc.work ∧
        (s.memoryResponded a).jc.state = s.jc.state ∧ (s.memoryResponded a).anchor = s.anchor) ∧
    (∀ (a : MemAnswer) (s : State) (r : Request), s.port.inFlight = some (.controller, r) → s.inProgress = true →
      (∀ g t, s.save ≠ .room g t) →
      (s.memoryResponded a).port.reqClaim = s.port.reqClaim ∧ (s.memoryResponded a).save = s.save ∧
        (s.memoryResponded a).front.phase = s.front.phase ∧
        (s.memoryResponded a).front.queue.map Entry.req = s.front.queue.map Entry.req ∧
        (s.memoryResponded a).front.responses = s.front.responses) ∧
    ∀ (a : MemAnswer) (s : State) (w : Bool), (s.memoryResponded a).port.lastGrant = s.port.lastGrant ∧
      ((s.arbitrate w).port.inFlight = s.port.inFlight ∨
        s.port.inFlight = none ∧ ∃ c r, (s.arbitrate w).port.inFlight = some (c, r) ∧ (s.arbitrate w).port.lastGrant = c)) ∧
  (∀ (s : State), s.port.inFlight = none →
    (∀ r c, s.port.reqClaim = some r → s.port.ctlClaim = some c → s.port.lastGrant = .controller →
      s.arbitrate true = { s with
        port.reqClaim := none
        port.inFlight := some (.request, r)
        port.lastGrant := .request
        port.met := true }) ∧
    (∀ r c, s.port.reqClaim = some r → s.port.ctlClaim = some c → s.port.lastGrant = .request →
      s.arbitrate true = { s with
        port.ctlClaim := none, port.inFlight := some (.controller, c), port.lastGrant := .controller }) ∧
    (∀ w r, s.port.reqClaim = some r → s.port.ctlClaim = none →
      s.arbitrate w = { s with
        port.reqClaim := none
        port.inFlight := some (.request, r)
        port.lastGrant := .request }) ∧
    (∀ w c, s.port.reqClaim = none → s.port.ctlClaim = some c →
      s.arbitrate w = { s with
        port.ctlClaim := none, port.inFlight := some (.controller, c), port.lastGrant := .controller }) ∧
    (∀ r c, s.port.met = false → s.port.reqClaim = some r → s.port.ctlClaim = some c →
      s.arbitrate false = { s with
        port.reqClaim := none
        port.inFlight := some (.request, r)
        port.lastGrant := .request
        port.met := true }) ∧
    ∀ r c, s.port.met = true → s.port.reqClaim = some r → s.port.ctlClaim = some c →
      s.arbitrate false = { s.drawn with
        port.reqClaim := none, port.inFlight := some (.request, r), port.lastGrant := .request } ∨
      s.arbitrate false = { s.drawn with
        port.ctlClaim := none, port.inFlight := some (.controller, c), port.lastGrant := .controller }) ∧
  (∀ (s : State) (r t t2 : Request) (rest : List Request) (o : Owner) (got data : List Byte), s.inReset = false →
    s.port.inFlight = some (.controller, r) → s.jc.work = some { owner := o, todo := t :: t2 :: rest, got := got } →
    exec (.memoryResponse (.okay data)) s = .next (State.finish s.claimWaits
      { s with
        port.inFlight := none
        jc.work := some { owner := o, todo := t2 :: rest, got := got ++ data.take t.returnSize } })) ∧
  (∀ (s : State) (t : Request) (rest : List Request) (o : Owner) (got : List Byte), s.lines.halt = false →
    s.port.ctlClaim = none → (∀ r, s.port.inFlight ≠ some (.controller, r)) →
    s.jc.work = some { owner := o, todo := t :: rest, got := got } →
    s.raiseCtlClaim = { s with port.ctlClaim := some t })

/-! ### Commands of a long operation -/

/-- R77, R106, R109, R113, R115, R181: a long-operation command that is refused answers the first result that applies, in the
order of its rule, and changes nothing but its frame. -/
def Obligations.LongCommandsAreRefusedInOrder : Prop :=
  ∀ s : State, s.linkReady = true →
    let frame := fun r : Result =>
      { s with link.csLow := true, link.pos := .turnaround, link.answer := some { result := r, response := [] } }
    let busy := s.name = .anchorRead ∨ s.name = .recovering ∨ s.name = .committing ∨ s.name = .rollingBack ∨
      s.name = .discarding ∨ s.name = .formatting ∨ s.name = .clearing
    (s.name = .unformatted ∨ s.name = .damaged →
      exec .commit s = .next (frame .notOpen) ∧ (∀ c, exec (.rollback c) s = .next (frame .notOpen)) ∧
        ∀ e, exec (.discard e) s = .next (frame .notOpen)) ∧
    (busy ∨ s.name = .opened ∧ s.mark = true →
      exec .commit s = .next (frame .busy) ∧ (∀ c, exec (.rollback c) s = .next (frame .busy)) ∧
        (∀ e, exec (.discard e) s = .next (frame .busy)) ∧ exec .format s = .next (frame .busy)) ∧
    (busy → exec .clearDamage s = .next (frame .busy)) ∧
    (s.name = .unformatted ∨ s.name = .opened ∨ s.name = .unguarded ∨ s.jc.state = .damaged .exhausted →
      exec .clearDamage s = .next (frame .notOpen)) ∧
    (s.name = .unguarded → ∀ c, exec (.rollback c) s = .next (frame .notSafe)) ∧
    (s.name = .opened → s.mark = false → ∀ c, s.listed c = false → exec (.rollback c) s = .next (frame .noSuch)) ∧
    (s.name = .opened → s.mark = false → ∀ c, s.listed c = true → (∃ d ∈ s.jc.directory, c ≤ d.number ∧ d.broken = true) →
      exec (.rollback c) s = .next (frame .notSafe)) ∧
    (s.name = .opened → s.mark = false → ∀ c, s.listed c = true → (∀ d ∈ s.jc.directory, c ≤ d.number → d.broken = false) →
      s.lines.halt = true → exec (.rollback c) s = .next (frame .halted)) ∧
    (s.name = .opened ∧ s.mark = false ∨ s.name = .unguarded → s.lines.halt = true →
      exec .commit s = .next (frame .halted) ∧ (∀ e, exec (.discard e) s = .next (frame .halted)) ∧
        exec .format s = .next (frame .halted)) ∧
    (s.name = .opened ∧ s.mark = false ∨ s.name = .unguarded → s.lines.halt = false →
      ∀ e, (∀ d ∈ s.jc.directory, e < d.number) → exec (.discard e) s = .next (frame .noSuch)) ∧
    (s.name = .unformatted ∨ s.name = .damaged → s.lines.halt = true → exec .format s = .next (frame .halted)) ∧
    (s.name = .damaged → s.jc.state ≠ .damaged .exhausted → s.lines.halt = true → exec .clearDamage s = .next (frame .halted))

/-- R77, R82: COMMIT in OPEN or UNGUARDED, with the mark clear and no halt, is ACCEPTED and taken: every queued request is
marked, the staged table and flag are copied, the timer becomes IDLE. R115, R119: ROLLBACK to a listed epoch with no broken
entry at or above it, in OPEN with the mark clear and no halt, is ACCEPTED and taken: every queued request is marked and the
rollback context is fixed. -/
def Obligations.CommitAndRollbackAreTaken : Prop :=
  (∀ s : State, s.linkReady = true → (s.name = .opened ∧ s.mark = false ∨ s.name = .unguarded) → s.lines.halt = false →
    exec .commit s = .next (State.finish s.claimWaits
      { s with
        jc.state := .committing
          { copy := { table := s.windows.staged, differs := s.windows.stagedDiffers }, byCommand := true, dropped := false,
            step := .drain }
        jc.timer := .idle
        front.queue := s.front.queue.map fun e => { e with marked := true }
        link.csLow := true
        link.pos := .turnaround
        link.answer := some { result := .accepted, response := [] }
        link.lastOp := some .commit
        link.lastResult := .accepted })) ∧
  (∀ (s : State) (c : Word) (e : OpenEpoch), s.linkReady = true → s.name = .opened → s.mark = false → s.lines.halt = false →
    s.jc.epoch = some e → (e.number = c ∨ ∃ d ∈ s.jc.directory, d.number = c) →
    (∀ d ∈ s.jc.directory, c ≤ d.number → d.broken = false) →
    exec (.rollback c) s = .next (State.finish s.claimWaits
      { s with
        jc.state := .rollingBack { target := c, openNumber := e.number, cause := .command, start := s.stamp, step := .drain }
        jc.timer := .idle
        front.queue := s.front.queue.map fun e => { e with marked := true }
        link.csLow := true
        link.pos := .turnaround
        link.answer := some { result := .accepted, response := [] }
        link.lastOp := some .rollback
        link.lastResult := .accepted }))

/-- R106, R107: DISCARD is ACCEPTED when some entry is numbered e or below: DISCARDING is entered, a RUNNING timer pauses, the
discard set's size, its slots and the tail behind it are fixed (the oldest remaining entry's first slot, or the open epoch's), and
an anchor update is asked for without the discarded entries; the volatile directory, tail and occupancy stand. While an unguard's
update is still being written in UNGUARDED, the discard's update is asked for when that one has ended (R100; log 19). R109: FORMAT in
UNFORMATTED, OPEN, UNGUARDED or DAMAGED is ACCEPTED and taken: the new format number is one above the newest valid anchor's,
65,535 followed by 1, and 1 when there is none. R113: CLEAR DAMAGE in DAMAGED with any cause but EXHAUSTED is ACCEPTED and
taken; the tables are copied. -/
def Obligations.DiscardFormatAndClearingAreTaken : Prop :=
  (∀ (s : State) (e : Word) (ep : OpenEpoch), s.linkReady = true →
    (s.name = .opened ∧ s.mark = false ∨ s.name = .unguarded) →
    s.lines.halt = false → s.jc.epoch = some ep → (∃ d ∈ s.jc.directory, d.number ≤ e) →
    let count := (s.jc.directory.filter fun d => d.number ≤ e).length
    let freed := ((s.jc.directory.take count).map DirEntry.slots).sum
    let newTail := match s.jc.directory.drop count with
      | d :: _ => d.firstSlot
      | [] => ep.firstSlot
    ∃ t : State, exec (.discard e) s = .next (t.finish s.claimWaits) ∧
      t.jc.state = .discarding
        { fromUnguarded := decide (s.name = .unguarded), count := count, newTail := newTail, freed := freed } ∧
      t.jc.directory = s.jc.directory ∧ t.jc.tail = s.jc.tail ∧ t.jc.occupancy = s.jc.occupancy ∧
      t.jc.timer = (match s.jc.timer with | .running ms => .paused ms | .paused ms => .paused ms | .idle => .idle) ∧
      t.front = s.front ∧ t.windows = s.windows ∧ t.tags = s.tags ∧
      t.link.lastOp = some .discard ∧ t.link.lastResult = .accepted ∧
      t.link.answer = some { result := .accepted, response := [] } ∧
      (s.jc.room ≠ none → t.anchor = s.anchor ∧ t.jc.work = s.jc.work ∧ t.jc.room = s.jc.room) ∧
      (s.jc.room = none → ∃ a : AnchorWrite, t.anchor.active = some a ∧ a.requester = .discard ∧ a.image.intent = none ∧
        a.image.directory = s.jc.directory.drop count ∧ a.image.tail = newTail ∧
        a.image.occupancy = s.jc.occupancy - freed ∧ a.image.openNumber = ep.number)) ∧
  (∀ (s : State) (c : DiscardCtx),
    (s.jc.room ≠ none ∨ s.jc.work ≠ none → s.discardStep c = none) ∧
    (s.jc.room = none → s.jc.work = none → ∃ (t : State) (a : AnchorWrite), s.discardStep c = some t ∧
      t.jc = { s.jc with work := t.jc.work } ∧ t.anchor.active = some a ∧ a.requester = .discard ∧ a.image.intent = none ∧
      a.image.directory = s.jc.directory.drop c.count ∧ a.image.tail = c.newTail ∧
      a.image.occupancy = s.jc.occupancy - c.freed ∧ a.image.openNumber = s.openNumber)) ∧
  (∀ s : State, s.linkReady = true →
    (s.name = .unformatted ∨ s.name = .damaged ∨ s.name = .unguarded ∨ s.name = .opened ∧ s.mark = false) →
    s.lines.halt = false →
    ∃ t : State, exec .format s = .next (t.finish s.claimWaits) ∧
      t.jc = { s.jc with
        state := .formatting
          { cameFrom := s.name
            copy := { table := s.windows.staged, differs := s.windows.stagedDiffers }
            number := if s.anchor.newest = none ∨ s.anchor.format = 0xFFFF then 1 else s.anchor.format + 1
            step := .headWait }
        timer := .idle } ∧
      t.front = s.front ∧ t.windows = s.windows ∧ t.anchor = s.anchor ∧ t.tags = s.tags ∧ t.port = s.port ∧
      t.save = (match s.save with
        | .room _ _ => .idle
        | v => v) ∧
      t.link.lastOp = some .format ∧ t.link.lastResult = .accepted ∧
      t.link.answer = some { result := .accepted, response := [] }) ∧
  (∀ (s : State) (k : Cause), s.linkReady = true → s.jc.state = .damaged k → k ≠ .exhausted → s.lines.halt = false →
    exec .clearDamage s = .next (State.finish s.claimWaits
      { s with
        jc.state := .clearing
          { copy := { table := s.windows.staged, differs := s.windows.stagedDiffers }, step := .headWait }
        link.csLow := true
        link.pos := .turnaround
        link.answer := some { result := .accepted, response := [] }
        link.lastOp := some .clearDamage
        link.lastResult := .accepted }))

/-! ### The steps of a commit -/

/-- R83, R84: the commit waits while a marked request remains in the queue. Once none remains the COMMIT record of the open epoch
is built once, with the stamp of that moment, and its five writes to the slot at head are to be made, with halt in force as
without (log 20); while the update of a reclaim or unguard made for a request given up still runs, the writes follow that update
(log 19). R85, R87, R90: the fifth write of the COMMIT record is answered OKAY with fewer than 15 entries listed and a slot free
behind it: the record is live, the epoch's entry is appended, and a full clear starts when the windows change. R88, R89: with 15
entries listed, or no slot free, the oldest of the entries then listed is dropped, which is epoch n's own where it is the only
one: tail moves past its slots, occupancy falls by them, and the drop is to be announced; the directory then holds at most 15
entries and a slot is free. -/
def Obligations.TheCommitRecordIsBuiltAndCloses : Prop :=
  (∀ (s : State) (c : CommitCtx) (e : OpenEpoch), s.jc.epoch = some e →
    let writes := fun i : CommitInfo => some
      ({ owner := .commitRecord
         todo := recordWrites s.base s.jc.head
           (Record.encode s.jc.head
             { format := s.anchor.format, epoch := e.number, seq := s.jc.nextSeq, body := .commit i })
         got := [] } : Work)
    let built : CommitInfo :=
      { preImages := e.preImages, writes := e.writes, stamp := s.stamp, broken := e.broken, changed := c.copy.differs }
    (c.step = .drain → (∃ q ∈ s.front.queue, q.marked = true) → s.commitStep c = none) ∧
    (c.step = .drain → (∀ q ∈ s.front.queue, q.marked = false) → s.commitStep c = some
      { s with
        jc.state := .committing { c with step := .record built }
        jc.work := if s.jc.room = none then writes built else s.jc.work }) ∧
    ∀ i, c.step = .record i →
      (s.jc.room ≠ none ∨ s.jc.work ≠ none → s.commitStep c = none) ∧
      (s.jc.room = none → s.jc.work = none → s.commitStep c = some { s with jc.work := writes i })) ∧
  (∀ (s : State) (r : Request) (c : CommitCtx) (i : CommitInfo) (e : OpenEpoch) (data got : List Byte) (t : Request),
    s.inReset = false → s.port.inFlight = some (.controller, r) → s.jc.state = .committing c → c.step = .record i →
    s.jc.work = some { owner := .commitRecord, todo := [t], got := got } → s.jc.epoch = some e →
    let entry : DirEntry :=
      { number := e.number, firstSlot := e.firstSlot, slots := i.preImages + 1, preImages := i.preImages, writes := i.writes,
        stamp := i.stamp, broken := i.broken }
    (s.jc.directory.length < 15 → s.jc.occupancy + 1 < s.capacity →
      exec (.memoryResponse (.okay data)) s = .next (State.finish s.claimWaits
        { s with
          port.inFlight := none
          jc.work := none
          jc.state := .committing { c with dropped := false, step := .tagWait }
          jc.head := if s.jc.head + 1 = s.capacity then 0 else s.jc.head + 1
          jc.occupancy := s.jc.occupancy + 1
          jc.nextSeq := s.jc.nextSeq + 1
          jc.directory := s.jc.directory ++ [entry]
          tags.activity := if c.copy.differs then .fullClear else s.tags.activity
          tags.done := if c.copy.differs then .absent else s.tags.done })) ∧
    ∀ x xs, s.jc.directory ++ [entry] = x :: xs → 1 ≤ x.slots → s.jc.directory.length ≤ 15 → s.jc.occupancy + 1 ≤ s.capacity →
      (s.jc.directory.length = 15 ∨ s.jc.occupancy + 1 = s.capacity) →
      exec (.memoryResponse (.okay data)) s = .next (State.finish s.claimWaits
        { s with
          port.inFlight := none
          jc.work := none
          jc.state := .committing { c with dropped := true, step := .tagWait }
          jc.head := if s.jc.head + 1 = s.capacity then 0 else s.jc.head + 1
          jc.tail := (s.jc.tail + x.slots) % s.capacity
          jc.occupancy := s.jc.occupancy + 1 - x.slots
          jc.nextSeq := s.jc.nextSeq + 1
          jc.directory := xs
          tags.activity := if c.copy.differs then .fullClear else s.tags.activity
          tags.done := if c.copy.differs then .absent else s.tags.done })) ∧
  (∀ (s : State) (d : DirEntry),
    (∀ x xs, s.jc.directory = x :: xs → s.dropOldest =
      { s with
        jc.directory := xs
        jc.tail := (s.jc.tail + x.slots) % s.capacity
        jc.occupancy := s.jc.occupancy - x.slots }) ∧
    (s.jc.directory.length < 15 → s.jc.occupancy < s.capacity →
      s.closeEpoch d = { s with jc.directory := s.jc.directory ++ [d] } ∧ s.closeDrops d = false) ∧
    (∀ x xs, s.jc.directory ++ [d] = x :: xs → 1 ≤ x.slots → s.jc.directory.length ≤ 15 → s.jc.occupancy ≤ s.capacity →
      (s.jc.directory.length = 15 ∨ s.jc.occupancy = s.capacity) →
      s.closeEpoch d =
        { s with
          jc.directory := xs
          jc.tail := (s.jc.tail + x.slots) % s.capacity
          jc.occupancy := s.jc.occupancy - x.slots } ∧
      s.closeDrops d = true ∧ (s.closeEpoch d).jc.directory.length ≤ 15 ∧ 1 ≤ (s.closeEpoch d).free))

/-- R86: a write of the COMMIT record answered ERROR: the commit fails, epoch and pointers stand, the marks are removed,
SEAL_FAILED and MEMORY_ERROR are raised, and the controller returns to OPEN, or to UNGUARDED when the epoch is broken. The latches are
then offered, before a head is handled: a CKPT request latched alone is a commit again on this event when no halt is in force. -/
def Obligations.AFailedCommitRecordLeavesTheEpochOpen : Prop :=
  ∀ (s : State) (r : Request) (c : CommitCtx) (e : OpenEpoch) (w : Work) (t : Request) (rest : List Request),
    s.inReset = false → s.port.inFlight = some (.controller, r) → s.jc.state = .committing c → s.jc.work = some w →
    w.owner = .commitRecord → w.todo = t :: rest → s.jc.epoch = some e →
    ∃ u : State, exec (.memoryResponse .error) s = .next (u.offerLatches.finish s.claimWaits) ∧
      u.jc = { s.jc with
        state := if e.broken then .unguarded else .opened
        work := none
        timer := if s.link.policies.autoCommit = 0 then .idle
          else if s.lines.halt then .paused s.link.policies.autoCommit else .running s.link.policies.autoCommit } ∧
      u.front = { s.front with queue := s.front.queue.map fun q => { q with marked := false } } ∧
      u.windows = s.windows ∧ u.tags = s.tags ∧ u.anchor = s.anchor ∧ u.save = s.save ∧
      u.events.flags = s.events.flags ||| 0x080 ||| 0x002 ∧
      u.link.lastResult = (if c.byCommand then .failed else s.link.lastResult) ∧
      u.link.lastOp = (if c.byCommand then some .commit else s.link.lastOp) ∧ u.lines = s.lines ∧
      (s.lines.ckptLatch = false → s.lines.fallbackLatch = false → u.offerLatches = u) ∧
      (s.lines.ckptLatch = true → s.lines.fallbackLatch = false → s.jc.room = none → s.lines.halt = false → u.offerLatches =
        { u with
          lines.ckptLatch := false
          jc.state := .committing
            { copy := { table := s.windows.staged, differs := s.windows.stagedDiffers }, byCommand := false, dropped := false,
              step := .drain }
          jc.timer := .idle
          front.queue := u.front.queue.map fun q => { q with marked := true } })

/-- R31, R90, R91, R92: when the sweep-done mark allows it the commit opens epoch n + 1 at head, applies its copy when the
windows change, and asks for its anchor update; for n = 4,294,967,295 it enters DAMAGED with cause EXHAUSTED and the record
becomes absent. -/
def Obligations.TheCommitOpensTheNextEpoch : Prop :=
  ∀ (s : State) (c : CommitCtx) (e : OpenEpoch), c.step = .tagWait → s.jc.epoch = some e →
    (¬(s.tags.done = .all ∨ s.tags.done = .gen (generationOf (e.number.toNat + 1))) → s.commitStep c = none) ∧
    (s.tags.done = .all ∨ s.tags.done = .gen (generationOf (e.number.toNat + 1)) → e.number ≠ 0xFFFFFFFF →
      ∃ t : State, s.commitStep c = some t ∧ t.name = .committing ∧
        t.jc.epoch = some
          { number := e.number + 1, firstSlot := s.jc.head, firstSeq := s.jc.nextSeq, preImages := 0, writes := 0,
            broken := false, generation := generationOf (e.number.toNat + 1) } ∧
        t.windows.committed = (if c.copy.differs then c.copy.table else s.windows.committed) ∧
        t.windows.staged = s.windows.staged ∧
        t.jc.windowLost = (s.jc.windowLost && !c.copy.differs) ∧
        t.jc.directory = s.jc.directory ∧ t.jc.tail = s.jc.tail ∧ t.jc.occupancy = s.jc.occupancy ∧
        ∃ a : AnchorWrite, t.anchor.active = some a ∧ a.requester = .commit ∧ a.image.openNumber = e.number + 1 ∧
          a.image.table = t.windows.committed ∧ a.image.directory = s.jc.directory ∧ a.image.intent = none) ∧
    (s.tags.done = .all ∨ s.tags.done = .gen (generationOf (e.number.toNat + 1)) → e.number = 0xFFFFFFFF → s.jc.state = .committing c →
      ∃ t : State, s.commitStep c = some t ∧ t.jc.state = .damaged .exhausted ∧ t.jc.epoch = none ∧ t.windows = s.windows ∧
        t.jc.directory = s.jc.directory ∧ t.events.flags = s.events.flags ||| 0x040 ∧
        t.link.lastResult = (if c.byCommand then .failed else s.link.lastResult))

/-- R93: the commit's anchor update completes: OPEN is entered, COMMITTED is raised, RECLAIMED when an entry was dropped, the
retire sweep for the generation after the open epoch's starts, the timer starts, the marks go, and the target slot is the
newest. -/
def Obligations.TheCommitCompletes : Prop :=
  ∀ (s : State) (r t : Request) (c : CommitCtx) (e : OpenEpoch) (a : AnchorWrite) (got data : List Byte), s.inReset = false →
    s.port.inFlight = some (.controller, r) → s.jc.work = some { owner := .update, todo := [t], got := got } →
    s.anchor.active = some a → a.requester = .commit → s.jc.state = .committing c → s.jc.epoch = some e →
    ∃ u : State, exec (.memoryResponse (.okay data)) s = .next (u.finish s.claimWaits) ∧
      u.jc = { s.jc with
        state := .opened
        work := none
        timer := if s.link.policies.autoCommit = 0 then .idle
          else if s.lines.halt then .paused s.link.policies.autoCommit else .running s.link.policies.autoCommit } ∧
      u.anchor = { s.anchor with active := none, newest := some { slot := a.target, seq := a.seq } } ∧
      u.events.flags = (if c.dropped then s.events.flags ||| 0x001 ||| 0x010 else s.events.flags ||| 0x001) ∧
      u.tags = { s.tags with activity := .retiring (generationOf (e.number.toNat + 1)), done := .absent } ∧
      u.front = { s.front with queue := s.front.queue.map fun q => { q with marked := false } } ∧
      u.windows = s.windows ∧ u.lines = s.lines ∧
      u.link.lastResult = (if c.byCommand then .done else s.link.lastResult)

/-! ### Anchor updates -/

/-- R97, R99, R100: an update goes to the slot that is not the newest, with the sequence one above the newest's, as 16 GRANULE
WRITEs in ascending order that carry the slot's 512 bytes, and its image records the volatile state and the straps. -/
def Obligations.AnAnchorUpdateAlternates : Prop :=
  ∀ (s : State) (r : Requester) (a : Anchor) (n : Newest) (e : OpenEpoch), s.anchor.newest = some n → s.jc.epoch = some e →
    (∃ (w : AnchorWrite) (bytes : List Byte), (s.startUpdate r a).anchor.active = some w ∧ w.requester = r ∧
      w.target = (match n.slot with
        | .slot0 => .slot1
        | .slot1 => .slot0) ∧
      w.seq = n.seq + 1 ∧ w.image = { a with seq := w.seq } ∧ bytes = Anchor.encode w.target w.image ∧
      (s.startUpdate r a).jc.work = some
        { owner := .update
          todo := (List.range 16).map fun i =>
            .granuleWrite (BitVec.ofNat 26 (4194304 * s.jbase.toNat + 512 * w.target.number + 32 * i))
              ((bytes.drop (32 * i)).take 32)
          got := [] }) ∧
      s.image.format = s.anchor.format ∧ s.image.jsize = s.jsize.setWidth 8 ∧ s.image.jbase = s.jbase.setWidth 8 ∧
      s.image.table = s.windows.committed ∧ s.image.directory = s.jc.directory ∧ s.image.openNumber = e.number ∧
      s.image.openFirstSlot = e.firstSlot ∧ s.image.openFirstSeq = e.firstSeq ∧ s.image.openBroken = e.broken ∧
      s.image.tail = s.jc.tail ∧ s.image.occupancy = s.jc.occupancy ∧ s.image.intent = none

/-- R101, R103: an update answered ERROR ends, the newest slot stands and MEMORY_ERROR is raised; for every requester but the
intent it sends the controller to DAMAGED with cause ANCHOR, the marks go, and the head in progress is not touched. R92, R108,
R114, R130, R149: the command that started the operation has FAILED as its result, and the report of a rollback's completion and of
a recovery is ended with outcome DAMAGED; every other report stands. R123: an intent update answered ERROR: the rollback fails
without damage, OPEN is entered with the epoch as it stood, the marks go, the timer starts, and a ROLLBACK command's result is
FAILED; the latches are then offered, before a head is handled, so that a CKPT request latched alone is taken on this offer when no
halt is in force. That a FORMAT taken in UNGUARDED while an unguard's update was still being written ends FAILED with that update, and that the
result of a rollback abandoned meanwhile stays UNSAFE, is the model's choice (log 19). -/
def Obligations.AFailedUpdateDamagesOrReturns : Prop :=
  (∀ (s : State) (r t : Request) (rest : List Request) (a : AnchorWrite) (got : List Byte), s.inReset = false →
    s.port.inFlight = some (.controller, r) → s.jc.work = some { owner := .update, todo := t :: rest, got := got } →
    s.anchor.active = some a → a.requester ≠ .intent →
    ∃ u : State, exec (.memoryResponse .error) s = .next (u.finish s.claimWaits) ∧
      u.jc = { s.jc with state := .damaged .anchor, timer := .idle, room := none, work := none } ∧
      u.anchor = { s.anchor with active := none } ∧ u.events.flags = s.events.flags ||| 0x080 ||| 0x040 ∧
      u.windows = s.windows ∧ u.tags = s.tags ∧ u.front.phase = s.front.phase ∧
      u.save = (match s.save with
        | .room _ _ => .idle
        | v => v) ∧
      u.front.queue = (s.front.queue.map fun q => { q with marked := false }) ∧
      u.events.report = (if a.requester = .completion ∨ a.requester = .recovery then
          s.events.report.map fun x => { x with finish := some s.stamp, outcome := some .damaged }
        else s.events.report) ∧
      (a.requester = .recovery → u.link = s.link) ∧
      (a.requester ≠ .recovery →
        (∀ c, s.jc.state = .committing c → c.byCommand = true →
          u.link = { s.link with lastOp := some .commit, lastResult := .failed }) ∧
        (∀ c, s.jc.state = .rollingBack c → c.cause = .command →
          u.link = { s.link with lastOp := some .rollback, lastResult := .failed }) ∧
        (s.name = .discarding → u.link = { s.link with lastOp := some .discard, lastResult := .failed }) ∧
        (s.name = .clearing → u.link = { s.link with lastOp := some .clearDamage, lastResult := .failed }) ∧
        (∀ c, s.jc.state = .committing c → c.byCommand = false → u.link = s.link) ∧
        (∀ c, s.jc.state = .rollingBack c → c.cause ≠ .command → u.link = s.link) ∧
        (s.name = .formatting → u.link = { s.link with lastOp := some .format, lastResult := .failed }) ∧
        (s.name = .opened ∨ s.name = .unguarded → u.link = s.link))) ∧
  (∀ (s : State) (r t : Request) (rest : List Request) (a : AnchorWrite) (c : RollbackCtx) (got : List Byte), s.inReset = false →
    s.port.inFlight = some (.controller, r) → s.jc.work = some { owner := .update, todo := t :: rest, got := got } →
    s.anchor.active = some a → a.requester = .intent → s.jc.state = .rollingBack c →
    ∃ u : State, exec (.memoryResponse .error) s = .next (u.offerLatches.finish s.claimWaits) ∧
      u.jc = { s.jc with
        state := .opened
        work := none
        timer := if s.link.policies.autoCommit = 0 then .idle
          else if s.lines.halt then .paused s.link.policies.autoCommit else .running s.link.policies.autoCommit } ∧
      u.anchor = { s.anchor with active := none } ∧ u.events.flags = s.events.flags ||| 0x080 ∧
      u.events.report = s.events.report ∧ u.windows = s.windows ∧ u.tags = s.tags ∧ u.save = s.save ∧ u.lines = s.lines ∧
      u.front = { s.front with queue := s.front.queue.map fun q => { q with marked := false } } ∧
      u.link.lastResult = (if c.cause = .command then .failed else s.link.lastResult) ∧
      (s.lines.ckptLatch = false → s.lines.fallbackLatch = false → u.offerLatches = u) ∧
      (s.lines.ckptLatch = true → s.lines.fallbackLatch = false → s.jc.room = none → s.lines.halt = false → u.offerLatches =
        { u with
          lines.ckptLatch := false
          jc.state := .committing
            { copy := { table := s.windows.staged, differs := s.windows.stagedDiffers }, byCommand := false, dropped := false,
              step := .drain }
          jc.timer := .idle
          front.queue := u.front.queue.map fun q => { q with marked := true } }))

/-! ### Reclaim and unguard -/

/-- R55, R57, R58, R59, R60, R121: a save in ROOM asks for room: with the policy ON and an entry to give up the oldest entry is
dropped, tail and occupancy follow, and an update is asked for; else the open epoch is marked broken and an update is asked for.
In ROLLING_BACK only entries numbered below the target are given up. R65: with free at least 2 again the granule read is claimed with
no second tag test; while the update asked for runs, and in DISCARDING, nothing is asked for; in DAMAGED, FORMATTING and every other
state the save ends, and the head is examined again. -/
def Obligations.ASaveAsksForRoom : Prop :=
  (∀ (s : State) (g n : Nat) (e : Entry) (rest : List Entry), s.front.queue = e :: rest → s.inProgress = false →
    s.lines.halt = false → s.save = .room g n → s.headStep = s.roomStep g n) ∧
  (∀ (s : State) (g n : Nat),
    (s.name = .opened ∨ s.name = .committing ∨ s.name = .rollingBack →
      (s.jc.room ≠ none → s.roomStep g n = none) ∧
      (s.jc.room = none → 2 ≤ s.free → s.roomStep g n = some
        { s with
          front.phase := .waiting
          front.holdTimer := none
          front.holdReason := none
          save := .read g n
          port.reqClaim := some (.granuleRead (BitVec.ofNat 26 (g * 32))) })) ∧
    (s.name = .discarding → s.roomStep g n = none) ∧
    (s.name ≠ .opened → s.name ≠ .committing → s.name ≠ .rollingBack → s.name ≠ .discarding →
      s.roomStep g n = some { s with save := .idle })) ∧
  ∀ (s : State) (g n : Nat), (s.name = .opened ∨ s.name = .committing ∨ s.name = .rollingBack) → s.jc.room = none → s.free < 2 →
    (∀ d ds, s.jc.directory = d :: ds → s.link.policies.reclaim = true →
      (∀ c, s.jc.state = .rollingBack c → d.number < c.target) →
      ∃ (t : State) (a : AnchorWrite), s.roomStep g n = some t ∧ t.jc.directory = ds ∧ t.jc.tail = (s.jc.tail + d.slots) % s.capacity ∧
        t.jc.occupancy = s.jc.occupancy - d.slots ∧ t.jc.head = s.jc.head ∧ t.jc.epoch = s.jc.epoch ∧ t.jc.state = s.jc.state ∧
        t.jc.room = some .reclaim ∧ t.anchor.active = some a ∧ a.requester = .reclaim ∧ a.image.directory = ds ∧
        a.image.occupancy = s.jc.occupancy - d.slots ∧ t.front = s.front ∧ t.tags = s.tags) ∧
    ((s.jc.directory = [] ∨ s.link.policies.reclaim = false ∨
        ∃ d ds c, s.jc.directory = d :: ds ∧ s.jc.state = .rollingBack c ∧ c.target ≤ d.number) →
      ∃ (t : State) (a : AnchorWrite), s.roomStep g n = some t ∧ t.jc.directory = s.jc.directory ∧ t.jc.tail = s.jc.tail ∧
        t.jc.occupancy = s.jc.occupancy ∧ t.jc.state = s.jc.state ∧ t.jc.room = some .unguard ∧
        t.jc.epoch = (s.jc.epoch.map fun e => { e with broken := true }) ∧ t.anchor.active = some a ∧
        a.requester = .unguard ∧ a.image.openBroken = s.jc.epoch.isSome ∧ t.front = s.front ∧ t.tags = s.tags)

/-- R57, R58, R60: a reclaim's update completes: RECLAIMED is raised. With free at least 2, or with the save that asked for room given
up, the reclaim ends; with free below 2 and a save still in ROOM another step drops the oldest entry, or, where no entry may be given
up (R58), the open epoch is marked broken and an unguard follows. R60, R61, R121: an unguard's update completes: UNGUARDED is raised,
OPEN becomes UNGUARDED while COMMITTING and ROLLING_BACK stay, and the write in ROOM is claimed with no save; where that write has
been given up nothing is claimed. -/
def Obligations.RoomIsMade : Prop :=
  (∀ (s : State) (r t : Request) (a : AnchorWrite) (got data : List Byte), s.inReset = false →
    s.port.inFlight = some (.controller, r) → s.jc.work = some { owner := .update, todo := [t], got := got } →
    s.anchor.active = some a → a.requester = .reclaim →
    ((2 ≤ s.free ∨ ∀ g n, s.save ≠ .room g n) →
      exec (.memoryResponse (.okay data)) s = .next (State.finish s.claimWaits
        { s with
          port.inFlight := none
          jc.work := none
          jc.room := none
          anchor.active := none
          anchor.newest := some { slot := a.target, seq := a.seq }
          events.flags := s.events.flags ||| 0x010
          events.raisedSince := s.events.raisedSince ||| 0x010 })) ∧
    (∀ g n, s.save = .room g n → s.free < 2 →
      (∀ d ds, s.jc.directory = d :: ds → (∀ c, s.jc.state = .rollingBack c → d.number < c.target) →
        ∃ (u : State) (b : AnchorWrite), exec (.memoryResponse (.okay data)) s = .next (u.finish s.claimWaits) ∧
          u.jc.directory = ds ∧ u.jc.tail = (s.jc.tail + d.slots) % s.capacity ∧ u.jc.occupancy = s.jc.occupancy - d.slots ∧
          u.jc.head = s.jc.head ∧ u.jc.epoch = s.jc.epoch ∧ u.jc.state = s.jc.state ∧ u.jc.room = some .reclaim ∧
          u.anchor.newest = some { slot := a.target, seq := a.seq } ∧ u.anchor.active = some b ∧ b.requester = .reclaim ∧
          b.target = a.target.other ∧ b.seq = a.seq + 1 ∧ b.image.directory = ds ∧ u.save = s.save ∧ u.front = s.front ∧
          u.events.flags = s.events.flags ||| 0x010) ∧
      ((s.jc.directory = [] ∨ ∃ d ds c, s.jc.directory = d :: ds ∧ s.jc.state = .rollingBack c ∧ c.target ≤ d.number) →
        ∃ (u : State) (b : AnchorWrite), exec (.memoryResponse (.okay data)) s = .next (u.finish s.claimWaits) ∧
          u.jc.directory = s.jc.directory ∧ u.jc.tail = s.jc.tail ∧ u.jc.occupancy = s.jc.occupancy ∧
          u.jc.state = s.jc.state ∧ u.jc.room = some .unguard ∧
          u.jc.epoch = (s.jc.epoch.map fun e => { e with broken := true }) ∧
          u.anchor.newest = some { slot := a.target, seq := a.seq } ∧ u.anchor.active = some b ∧ b.requester = .unguard ∧
          b.image.openBroken = s.jc.epoch.isSome ∧ u.save = s.save ∧ u.front = s.front ∧
          u.events.flags = s.events.flags ||| 0x010))) ∧
  (∀ (s : State) (r t : Request) (a : AnchorWrite) (got data : List Byte), s.inReset = false →
    s.port.inFlight = some (.controller, r) → s.jc.work = some { owner := .update, todo := [t], got := got } →
    s.anchor.active = some a → a.requester = .unguard →
    (∀ g n e rest, s.save = .room g n → s.front.queue = e :: rest →
      exec (.memoryResponse (.okay data)) s = .next (State.finish s.claimWaits
        { s with
          port.inFlight := none
          port.reqClaim := some e.req.aligned
          jc.work := none
          jc.room := none
          jc.state := if s.jc.state = .opened then .unguarded else s.jc.state
          anchor.active := none
          anchor.newest := some { slot := a.target, seq := a.seq }
          front.phase := .performing true
          front.holdTimer := none
          front.holdReason := none
          save := .idle
          events.flags := s.events.flags ||| 0x020
          events.raisedSince := s.events.raisedSince ||| 0x020 })) ∧
    ((∀ g n, s.save ≠ .room g n) →
      exec (.memoryResponse (.okay data)) s = .next (State.finish s.claimWaits
        { s with
          port.inFlight := none
          jc.work := none
          jc.room := none
          jc.state := if s.jc.state = .opened then .unguarded else s.jc.state
          anchor.active := none
          anchor.newest := some { slot := a.target, seq := a.seq }
          events.flags := s.events.flags ||| 0x020
          events.raisedSince := s.events.raisedSince ||| 0x020 })))

/-! ### Rollback and replay -/

/-- R120, R121, R122: a rollback waits while a marked request remains in the queue. With none left, a rollback of an unbroken epoch
asks for the intent update with its target, after the update of a reclaim made for a request given up (log 19); of a broken one it is
abandoned into UNGUARDED, even while the unguard's update still runs, with the marks removed, the timer started, and the result UNSAFE
for a command. R122, R124, R132: the intent
update completes: the report begins, and the replay starts at the slot before head with the sequence one below the next, over
the slots of the entries numbered c and above and the open epoch's pre-images. -/
def Obligations.TheIntentAndTheReplayBegin : Prop :=
  (∀ (s : State) (c : RollbackCtx), s.jc.state = .rollingBack c → c.step = .drain →
    (∃ q ∈ s.front.queue, q.marked = true) → s.rollbackStep c = none) ∧
  (∀ (s : State) (c : RollbackCtx), s.jc.state = .rollingBack c → c.step = .drain → (∀ q ∈ s.front.queue, q.marked = false) →
    (s.jc.room = some .reclaim → s.rollbackStep c = none) ∧
    (s.openBroken = false → s.jc.room = none → ∃ (t : State) (a : AnchorWrite), s.rollbackStep c = some t ∧ t.jc.state = .rollingBack { c with step := .intent } ∧
      t.anchor.active = some a ∧ a.requester = .intent ∧ a.image.intent = some c.target ∧ a.image.directory = s.jc.directory ∧
      a.image.openNumber = s.openNumber ∧ t.jc.head = s.jc.head ∧ t.jc.directory = s.jc.directory ∧ t.events = s.events) ∧
    (s.openBroken = true → s.jc.room ≠ some .reclaim → ∃ t : State, s.rollbackStep c = some t ∧
      t.jc = { s.jc with
        state := .unguarded
        timer := if s.link.policies.autoCommit = 0 then .idle
          else if s.lines.halt then .paused s.link.policies.autoCommit else .running s.link.policies.autoCommit } ∧
      t.front = { s.front with queue := s.front.queue.map fun q => { q with marked := false } } ∧
      t.anchor = s.anchor ∧ t.events = s.events ∧ t.windows = s.windows ∧ t.tags = s.tags ∧
      t.link.lastResult = if c.cause = .command then .notSafe else s.link.lastResult)) ∧
  (∀ (s : State) (r t : Request) (a : AnchorWrite) (c : RollbackCtx) (got data : List Byte), s.inReset = false →
    s.port.inFlight = some (.controller, r) → s.jc.work = some { owner := .update, todo := [t], got := got } →
    s.anchor.active = some a → a.requester = .intent → s.jc.state = .rollingBack c →
    ∃ (u : State) (w : Walk), exec (.memoryResponse (.okay data)) s = .next (u.finish s.claimWaits) ∧
      u.jc.state = .rollingBack { c with step := .replay w } ∧
      w.slot = (if s.jc.head = 0 then s.capacity - 1 else s.jc.head - 1) ∧
      w.left = ((s.jc.directory.filter fun d => c.target ≤ d.number).map DirEntry.slots).sum +
        (match s.jc.epoch with
          | none => 0
          | some e => e.preImages) ∧
      w.expected = s.jc.nextSeq - 1 ∧
      u.jc.work = (if w.left = 0 then none
        else some { owner := .replayRead, todo := recordReads s.base w.slot, got := [] }) ∧
      u.events.report = some
        { cause := c.cause, target := some c.target, openAtStart := c.openNumber, replayed := 0, start := c.start, finish := none,
          outcome := none } ∧
      u.anchor = { s.anchor with active := none, newest := some { slot := a.target, seq := a.seq } } ∧
      u.front = s.front ∧ u.tags = s.tags ∧ u.windows = s.windows ∧ u.jc.head = s.jc.head ∧ u.jc.directory = s.jc.directory)

/-- R124, R125, R127: the last read of a replay record answered OKAY hands its bytes to the walk. A record valid at its slot: a
PRE-IMAGE's payload is to be written to its granule; a COMMIT record is passed with no write. R125: a replay write answered OKAY
raises the report's count of records replayed by 1. Either way the walk goes on to the slot before, whose record is read, or stands
at its end after the last slot. -/
def Obligations.TheReplayTreatsItsRecords : Prop :=
  (∀ (s : State) (r t : Request) (w : Walk) (got data : List Byte), s.inReset = false →
    s.port.inFlight = some (.controller, r) → s.jc.work = some { owner := .replayRead, todo := [t], got := got } →
    s.jc.state.walk = some w →
    exec (.memoryResponse (.okay data)) s = .next (State.finish s.claimWaits
      (State.replayRecord (got ++ data.take t.returnSize) { s with port.inFlight := none, jc.work := none }))) ∧
  (∀ (s : State) (w : Walk) (bytes : List Byte) (x : Record), s.jc.state.walk = some w →
    validRecord w.slot s.anchor.format w.expected s.jc.state.replayTarget.1 s.jc.state.replayTarget.2 bytes = some x →
    (∀ g p, x.body = .preImage g p → s.replayRecord bytes =
      { s with
        jc.work := some { owner := .replayWrite, todo := [.granuleWrite (BitVec.ofNat 26 (g * 32)) p], got := [] } }) ∧
    (∀ i, x.body = .commit i → 1 ≤ w.left → s.replayRecord bytes =
      { s with
        jc.state := s.jc.state.setWalk
          { slot := if w.slot = 0 then s.capacity - 1 else w.slot - 1, left := w.left - 1, expected := w.expected - 1 }
        jc.work := if w.left = 1 then s.jc.work else some
          { owner := .replayRead, todo := recordReads s.base (if w.slot = 0 then s.capacity - 1 else w.slot - 1), got := [] } })) ∧
  (∀ (s : State) (r t : Request) (w : Walk) (got data : List Byte), s.inReset = false →
    s.port.inFlight = some (.controller, r) → s.jc.work = some { owner := .replayWrite, todo := [t], got := got } →
    s.jc.state.walk = some w → 1 ≤ w.left →
    exec (.memoryResponse (.okay data)) s = .next (State.finish s.claimWaits
      { s with
        port.inFlight := none
        events.report := s.events.report.map fun x => { x with replayed := x.replayed + 1 }
        jc.state := s.jc.state.setWalk
          { slot := if w.slot = 0 then s.capacity - 1 else w.slot - 1, left := w.left - 1, expected := w.expected - 1 }
        jc.work := if w.left = 1 then none else some
          { owner := .replayRead, todo := recordReads s.base (if w.slot = 0 then s.capacity - 1 else w.slot - 1), got := [] } }))

/-- R126, R144: a record of the range that is not valid, or a replay transaction answered ERROR, ends the replay: DAMAGED with
cause REPLAY, the report ended with outcome DAMAGED, and pointers, directory and epoch as they stood; a ROLLBACK command that started
the rollback has FAILED as its result, and the result stands for a line's rollback and for a recovery. R142: a read of the scan
answered ERROR: DAMAGED with cause SCAN, the pointers as the records counted so far give them, MEMORY_ERROR and DAMAGED raised,
no report begun; the full clear runs on. -/
def Obligations.FailedReadsOfReplayAndScanDamage : Prop :=
  ((∀ (s : State) (w : Walk) (bytes : List Byte), s.jc.state.walk = some w →
    validRecord w.slot s.anchor.format w.expected s.jc.state.replayTarget.1 s.jc.state.replayTarget.2 bytes = none →
    s.replayRecord bytes = s.replayFailed) ∧
  (∀ (s : State) (r t : Request) (rest : List Request) (o : Owner) (got : List Byte), s.inReset = false →
    s.port.inFlight = some (.controller, r) → s.jc.work = some { owner := o, todo := t :: rest, got := got } →
    o = .replayRead ∨ o = .replayWrite →
    ∃ u : State, u.jc = { s.jc with work := none } ∧ u.front = s.front ∧ u.events.flags = s.events.flags ||| 0x080 ∧
      u.events.report = s.events.report ∧ exec (.memoryResponse .error) s = .next (u.replayFailed.finish s.claimWaits)) ∧
  ∀ s : State, s.replayFailed.jc =
      { s.jc with state := .damaged .replay, timer := .idle, room := none, work := none } ∧
    s.replayFailed.events.flags = s.events.flags ||| 0x040 ∧
    s.replayFailed.events.report =
      (s.events.report.map fun r => { r with finish := some s.stamp, outcome := some .damaged }) ∧
    s.replayFailed.windows = s.windows ∧ s.replayFailed.tags = s.tags ∧ s.replayFailed.lines = s.lines ∧
    (∀ c, s.jc.state = .rollingBack c → s.replayFailed.link =
      if c.cause = .command then { s.link with lastOp := some .rollback, lastResult := .failed } else s.link) ∧
    (s.name = .recovering → s.replayFailed.link = s.link)) ∧
  (∀ (s : State) (r t : Request) (rest : List Request) (c : RecoveryCtx) (e : OpenEpoch) (count slot : Nat) (got : List Byte),
    s.inReset = false → s.port.inFlight = some (.controller, r) →
    s.jc.work = some { owner := .scan, todo := t :: rest, got := got } → s.jc.state = .recovering c → c.step = .scan count slot →
    s.jc.epoch = some e →
    ∃ u : State, exec (.memoryResponse .error) s = .next (u.finish s.claimWaits) ∧
      u.jc = { s.jc with
        state := .damaged .scan
        timer := .idle
        room := none
        work := none
        head := slot
        nextSeq := e.firstSeq + BitVec.ofNat 32 count
        occupancy := (s.jc.directory.map DirEntry.slots).sum + count } ∧
      u.events.flags = s.events.flags ||| 0x080 ||| 0x040 ∧ u.events.report = s.events.report ∧ u.tags = s.tags ∧
      u.windows = s.windows)

/-- R128: the truncation at the end of a replay to c: head becomes c's first slot, occupancy and the next sequence number fall
by k, the entries numbered c and above go, tail stays. R129, R130: when the sweep-done mark allows it epoch n + 1 opens at head and
the completion update is asked for, without intent; for n = 4,294,967,295 the controller enters DAMAGED with cause EXHAUSTED, the
report is ended DAMAGED and a ROLLBACK command has FAILED. R131: the completion update completes: OPEN is entered, the report ends
COMPLETE with the stamp, ROLLED_BACK is raised, a latched CKPT request is discarded with LINE_DISCARDED, and sweep and timer
start. -/
def Obligations.TheRollbackTruncatesAndCompletes : Prop :=
  (∀ (s : State) (c : RollbackCtx) (w : Walk), c.step = .replay w → w.left = 0 →
    ∃ (t : State) (k : Nat), s.rollbackStep c = some t ∧
      k = ((s.jc.directory.filter fun d => c.target ≤ d.number).map DirEntry.slots).sum +
        (match s.jc.epoch with
          | none => 0
          | some e => e.preImages) ∧
      t.jc.state = .rollingBack { c with step := .tagWait } ∧ t.jc.occupancy = s.jc.occupancy - k ∧
      t.jc.nextSeq = s.jc.nextSeq - BitVec.ofNat 32 k ∧
      t.jc.directory = (s.jc.directory.filter fun d => d.number < c.target) ∧ t.jc.tail = s.jc.tail ∧ t.jc.epoch = s.jc.epoch ∧
      (∀ d, s.jc.directory.find? (fun x => x.number = c.target) = some d → t.jc.head = d.firstSlot) ∧
      (∀ e, s.jc.epoch = some e → (∀ d ∈ s.jc.directory, d.number ≠ c.target) → t.jc.head = e.firstSlot) ∧
      t.windows = s.windows ∧ t.tags = s.tags ∧ t.events = s.events ∧ t.port = s.port) ∧
  (∀ (s : State) (c : RollbackCtx), s.jc.state = .rollingBack c → c.step = .tagWait →
    (¬(s.tags.done = .all ∨ s.tags.done = .gen (generationOf (c.openNumber.toNat + 1))) → s.rollbackStep c = none) ∧
    (s.tags.done = .all ∨ s.tags.done = .gen (generationOf (c.openNumber.toNat + 1)) → c.openNumber ≠ 0xFFFFFFFF →
      ∃ (t : State) (a : AnchorWrite), s.rollbackStep c = some t ∧ t.jc.state = .rollingBack { c with step := .anchor } ∧
        t.jc.epoch = some
          { number := c.openNumber + 1, firstSlot := s.jc.head, firstSeq := s.jc.nextSeq, preImages := 0, writes := 0,
            broken := false, generation := generationOf (c.openNumber.toNat + 1) } ∧
        t.jc.directory = s.jc.directory ∧ t.jc.tail = s.jc.tail ∧ t.jc.head = s.jc.head ∧ t.jc.occupancy = s.jc.occupancy ∧
        t.windows = s.windows ∧ t.tags = s.tags ∧ t.events = s.events ∧ t.anchor.active = some a ∧ a.requester = .completion ∧
        a.image.openNumber = c.openNumber + 1 ∧ a.image.openFirstSlot = s.jc.head ∧ a.image.openFirstSeq = s.jc.nextSeq ∧
        a.image.openBroken = false ∧ a.image.directory = s.jc.directory ∧ a.image.tail = s.jc.tail ∧
        a.image.occupancy = s.jc.occupancy ∧ a.image.table = s.windows.committed ∧ a.image.intent = none) ∧
    (s.tags.done = .all ∨ s.tags.done = .gen (generationOf (c.openNumber.toNat + 1)) → c.openNumber = 0xFFFFFFFF →
      ∃ t : State, s.rollbackStep c = some t ∧
        t.jc = { s.jc with state := .damaged .exhausted, timer := .idle, room := none, work := none } ∧
        t.events.flags = s.events.flags ||| 0x040 ∧
        t.events.report = (s.events.report.map fun x => { x with finish := some s.stamp, outcome := some .damaged }) ∧
        t.link.lastResult = (if c.cause = .command then .failed else s.link.lastResult) ∧ t.windows = s.windows ∧
        t.tags = s.tags)) ∧
  (∀ (s : State) (r t : Request) (a : AnchorWrite) (c : RollbackCtx) (e : OpenEpoch) (got data : List Byte), s.inReset = false →
    s.port.inFlight = some (.controller, r) → s.jc.work = some { owner := .update, todo := [t], got := got } →
    s.anchor.active = some a → a.requester = .completion → s.jc.state = .rollingBack c → s.jc.epoch = some e →
    ∃ u : State, exec (.memoryResponse (.okay data)) s = .next (u.finish s.claimWaits) ∧ u.jc.state = .opened ∧
      u.events.flags = (if s.lines.ckptLatch then s.events.flags ||| 0x004 ||| 0x400 else s.events.flags ||| 0x004) ∧
      u.events.report = (s.events.report.map fun x => { x with finish := some s.stamp, outcome := some .complete }) ∧
      u.lines = { s.lines with ckptLatch := false } ∧
      u.tags = { s.tags with activity := .retiring (generationOf (e.number.toNat + 1)), done := .absent } ∧
      u.link.lastResult = (if c.cause = .command then .done else s.link.lastResult) ∧
      u.jc.timer = (if s.link.policies.autoCommit = 0 then .idle
          else if s.lines.halt then .paused s.link.policies.autoCommit else .running s.link.policies.autoCommit) ∧
      u.jc.directory = s.jc.directory ∧ u.jc.epoch = s.jc.epoch ∧ u.jc.head = s.jc.head ∧ u.windows = s.windows ∧
      u.front = { s.front with queue := s.front.queue.map fun q => { q with marked := false } })

/-! ### Recovery -/

/-- R98: an anchor slot is valid exactly when its check code passes for its own number, its straps are the sampled ones, its format
number is not 0 and its directory count is at most 15. R99: of two valid slots the one a sequence above the other is newest, wrapping
at the top; else the greater; equal sequences give slot 0; one valid slot alone is newest. R98, R99, R137 to R139: the last read of
the anchor read is answered OKAY: with neither slot valid the controller enters UNFORMATTED; else the newest valid anchor is loaded, a
full clear starts, and the scan reads the open epoch's first slot (contents out of range are loaded as they stand, log 18). -/
def Obligations.TheAnchorReadChoosesTheNewest : Prop :=
  (∀ (t : AnchorSlot) (jb : BitVec 4) (js : BitVec 3) (bytes : List Byte),
    (leWord (fieldAt 508 4 bytes) ≠ crc32 (bytes.take 508 ++ leBytes 4 t.number) → validAnchor t jb js bytes = none) ∧
    (bytes.getD 6 0 ≠ js.setWidth 8 → validAnchor t jb js bytes = none) ∧
    (bytes.getD 397 0 ≠ jb.setWidth 8 → validAnchor t jb js bytes = none) ∧
    (fieldAt 4 2 bytes = [0, 0] → validAnchor t jb js bytes = none) ∧
    (15 < (bytes.getD 7 0).toNat → validAnchor t jb js bytes = none) ∧
    (bytes.length = 512 → leWord (fieldAt 508 4 bytes) = crc32 (bytes.take 508 ++ leBytes 4 t.number) →
      bytes.getD 6 0 = js.setWidth 8 → bytes.getD 397 0 = jb.setWidth 8 → fieldAt 4 2 bytes ≠ [0, 0] →
      (bytes.getD 7 0).toNat ≤ 15 → validAnchor t jb js bytes = some (anchorOf bytes))) ∧
  ((∀ a : Anchor, newestAnchor (some a) none = some (.slot0, a) ∧ newestAnchor none (some a) = some (.slot1, a)) ∧
  newestAnchor none none = none ∧
  ∀ a b : Anchor,
    (b.seq = a.seq + 1 → newestAnchor (some a) (some b) = some (.slot1, b)) ∧
    (a.seq = b.seq + 1 → newestAnchor (some a) (some b) = some (.slot0, a)) ∧
    (a.seq = b.seq → newestAnchor (some a) (some b) = some (.slot0, a)) ∧
    (b.seq ≠ a.seq + 1 → a.seq ≠ b.seq + 1 → a.seq < b.seq → newestAnchor (some a) (some b) = some (.slot1, b)) ∧
    (b.seq ≠ a.seq + 1 → a.seq ≠ b.seq + 1 → b.seq < a.seq → newestAnchor (some a) (some b) = some (.slot0, a))) ∧
  (∀ (s : State) (r t : Request) (got data bytes : List Byte), s.inReset = false → s.port.inFlight = some (.controller, r) →
    s.jc.state = .anchorRead → s.jc.work = some { owner := .anchorRead, todo := [t], got := got } →
    bytes = got ++ data.take t.returnSize →
    (validAnchor .slot0 s.jbase s.jsize (bytes.take 512) = none → validAnchor .slot1 s.jbase s.jsize (bytes.drop 512) = none →
      exec (.memoryResponse (.okay data)) s = .next (State.finish s.claimWaits
        { s with port.inFlight := none, jc.work := none, jc.state := .unformatted })) ∧
    ∀ slot a, newestAnchor (validAnchor .slot0 s.jbase s.jsize (bytes.take 512))
        (validAnchor .slot1 s.jbase s.jsize (bytes.drop 512)) = some (slot, a) →
      exec (.memoryResponse (.okay data)) s = .next (State.finish s.claimWaits
        { s with
          port.inFlight := none
          windows := { committed := a.table, staged := a.table, stagedDiffers := false }
          anchor := { active := none, newest := some { slot := slot, seq := a.seq }, format := a.format }
          tags.activity := .fullClear
          tags.done := .absent
          jc.state := .recovering
            { intent := a.intent, openNumber := a.openNumber, start := s.stamp, found := none, dropped := false,
              step := .scan 0 a.openFirstSlot }
          jc.epoch := some
            { number := a.openNumber, firstSlot := a.openFirstSlot, firstSeq := a.openFirstSeq, preImages := 0, writes := 0,
              broken := a.openBroken, generation := generationOf a.openNumber.toNat }
          jc.directory := a.directory
          jc.tail := a.tail
          jc.occupancy := a.occupancy
          jc.work := some { owner := .scan, todo := recordReads s.base a.openFirstSlot, got := [] } }))

/-- R137, R111: an ERROR answered to the anchor read or to a write of FORMAT raises MEMORY_ERROR and nothing else: the same
transaction is to be made again. -/
def Obligations.AnchorReadAndFormatRetry : Prop :=
  ∀ (s : State) (r t : Request) (rest : List Request) (o : Owner) (got : List Byte), s.inReset = false →
    s.port.inFlight = some (.controller, r) → s.jc.work = some { owner := o, todo := t :: rest, got := got } →
    o = .anchorRead ∨ o = .scrub ∨ o = .invalidate0 ∨ o = .invalidate1 ∨ o = .slot0 →
    exec (.memoryResponse .error) s = .next (State.finish s.claimWaits
      { s with
        port.inFlight := none
        events.flags := s.events.flags ||| 0x080
        events.raisedSince := s.events.raisedSince ||| 0x080 })

/-- R50, R51, R187, R189: a record read is valid at a slot for a format number, an expected sequence and a range of epochs exactly
when its check code passes for the slot with the sequence read, its kind code is 1 or 2, its format number and the low 24 bits of
its sequence are those expected, and its epoch lies in the range; then it holds what its bytes say. R140, R141: the last read of a
scanned record answered OKAY hands its bytes to the scan. A valid PRE-IMAGE record of the open epoch raises the pre-image count
and the scan reads the next slot, or ends with head behind it when the directory part and the count reach capacity; a record that
is not valid ends the scan with head at its slot, and a valid COMMIT record ends it with head behind it. -/
def Obligations.TheScanWalks : Prop :=
  (∀ (slot : Nat) (f : Half) (q lo hi : Word) (bytes : List Byte),
    let stored := leNat (fieldAt 3 3 bytes)
    let kind := leNat (fieldAt 0 3 bytes) / 2097152
    let epoch := leWord (fieldAt 8 4 bytes)
    let passes := leWord (fieldAt 12 4 bytes) = crc32
      (fieldAt 0 3 bytes ++ leBytes 4 (16777216 * (q.toNat / 16777216) + stored) ++ fieldAt 6 6 bytes ++ fieldAt 16 32 bytes ++
        leBytes 4 slot)
    (¬passes → validRecord slot f q lo hi bytes = none) ∧
    (kind ≠ 1 → kind ≠ 2 → validRecord slot f q lo hi bytes = none) ∧
    (leHalf (fieldAt 6 2 bytes) ≠ f → validRecord slot f q lo hi bytes = none) ∧
    (stored ≠ q.toNat % 16777216 → validRecord slot f q lo hi bytes = none) ∧
    (epoch < lo ∨ hi < epoch → validRecord slot f q lo hi bytes = none) ∧
    (passes → leHalf (fieldAt 6 2 bytes) = f → stored = q.toNat % 16777216 → lo ≤ epoch → epoch ≤ hi →
      (kind = 1 → validRecord slot f q lo hi bytes = some
        { format := f, epoch := epoch, seq := q,
          body := .preImage (leNat (fieldAt 0 3 bytes) % 2097152) (fieldAt 16 32 bytes) }) ∧
      (kind = 2 → validRecord slot f q lo hi bytes = some
        { format := f, epoch := epoch, seq := q,
          body := .commit
            { preImages := leNat (fieldAt 16 4 bytes), writes := leWord (fieldAt 20 4 bytes),
              stamp := leWord (fieldAt 24 4 bytes), broken := (bytes.getD 28 0).getLsbD 0,
              changed := (bytes.getD 28 0).getLsbD 1 } }))) ∧
  (∀ (s : State) (r t : Request) (c : RecoveryCtx) (count slot : Nat) (got data : List Byte), s.inReset = false →
    s.port.inFlight = some (.controller, r) → s.jc.work = some { owner := .scan, todo := [t], got := got } →
    s.jc.state = .recovering c → c.step = .scan count slot →
    exec (.memoryResponse (.okay data)) s = .next (State.finish s.claimWaits
      (State.scanRecord c count slot (got ++ data.take t.returnSize) { s with port.inFlight := none, jc.work := none }))) ∧
  (∀ (s : State) (c : RecoveryCtx) (e : OpenEpoch) (count slot : Nat) (bytes : List Byte), s.jc.epoch = some e →
    (∀ x g p, validRecord slot s.anchor.format (e.firstSeq + BitVec.ofNat 32 count) c.openNumber c.openNumber bytes = some x →
      x.body = .preImage g p →
      ((s.jc.directory.map DirEntry.slots).sum + (count + 1) < s.capacity →
        s.scanRecord c count slot bytes =
          { s with
            jc.epoch := some { e with preImages := e.preImages + 1 }
            jc.state := .recovering
              { c with step := .scan (count + 1) (if slot + 1 = s.capacity then 0 else slot + 1) }
            jc.work := some
              { owner := .scan, todo := recordReads s.base (if slot + 1 = s.capacity then 0 else slot + 1), got := [] } }) ∧
      (s.capacity ≤ (s.jc.directory.map DirEntry.slots).sum + (count + 1) →
        s.scanRecord c count slot bytes =
          State.endScan c (count + 1) (if slot + 1 = s.capacity then 0 else slot + 1)
            { s with jc.epoch := some { e with preImages := e.preImages + 1 } })) ∧
    (validRecord slot s.anchor.format (e.firstSeq + BitVec.ofNat 32 count) c.openNumber c.openNumber bytes = none →
      s.scanRecord c count slot bytes = s.endScan c count slot ∧
        (s.scanPointers count slot).jc =
          { s.jc with
            head := slot
            nextSeq := e.firstSeq + BitVec.ofNat 32 count
            occupancy := (s.jc.directory.map DirEntry.slots).sum + count }) ∧
    (∀ x i, validRecord slot s.anchor.format (e.firstSeq + BitVec.ofNat 32 count) c.openNumber c.openNumber bytes = some x →
      x.body = .commit i →
      s.scanRecord c count slot bytes =
        s.endScan { c with found := some i } (count + 1) (if slot + 1 = s.capacity then 0 else slot + 1)))

/-- R143 to R148: the scan's end takes the first course that applies, begins the report with its target, and makes the course's
own steps: a replay for an intent or an undo, over every slot from the target's first to the one before head, with the COMMIT
record that the scan counted; an emptied ring for a broken epoch; the commit's directory steps for a COMMIT record found, with the
mark of a drop as R146 gives. R144, R148: the end of the replay truncates the ring to the target's first slot. R149: when the full
clear has ended epoch n + 1 opens at head, broken after course 2, and recovery's anchor update is asked for; for n = 4,294,967,295
the controller enters DAMAGED with cause EXHAUSTED and the report is ended DAMAGED. R147, R150: recovery's anchor update
completes: OPEN is entered, or UNGUARDED after a broken open epoch, the report ends by the course, RECOVERED is raised with
UNGUARDED or RECLAIMED as the course gives, a lost window change is marked, and sweep and timer start; then the waiting head is
examined. -/
def Obligations.RecoveryTakesItsCourseAndCompletes : Prop :=
  (∀ (s : State) (c : RecoveryCtx) (e : OpenEpoch) (count head : Nat), s.jc.epoch = some e →
    let p := s.scanPointers count head
    let report := fun target : Option Word => some
      ({ cause := .recovery, target := target, openAtStart := c.openNumber, replayed := 0, start := c.start, finish := none,
         outcome := none } : Report)
    let walk := fun target : Word =>
      ({ slot := if head = 0 then s.capacity - 1 else head - 1
         left := ((s.jc.directory.filter fun d => target ≤ d.number).map DirEntry.slots).sum + e.preImages +
           (if c.found = none then 0 else 1)
         expected := e.firstSeq + BitVec.ofNat 32 count - 1 } : Walk)
    let reads := fun target : Word =>
      if (walk target).left = 0 then s.jc.work
      else some { owner := .replayRead, todo := recordReads s.base (walk target).slot, got := [] }
    (∀ target, c.intent = some target → (s.endScan c count head).events.report = report (some target) ∧
      (s.endScan c count head).jc =
        { p.jc with state := .recovering { c with step := .replay .redo (walk target) }, work := reads target }) ∧
    (c.intent = none → e.broken = true → c.found = none → (s.endScan c count head).events.report = report none ∧
      (s.endScan c count head).jc =
        { p.jc with directory := [], tail := head, occupancy := 0, state := .recovering { c with step := .tagWait .broken } }) ∧
    (∀ i, c.intent = none → c.found = some i → (s.endScan c count head).events.report = report none ∧
      let entry : DirEntry :=
        { number := e.number, firstSlot := e.firstSlot, slots := i.preImages + 1, preImages := i.preImages, writes := i.writes,
          stamp := i.stamp, broken := i.broken }
      (s.endScan c count head).jc =
        { (p.closeEpoch entry).jc with
          state := .recovering { c with dropped := p.closeDrops entry, step := .tagWait .forward } }) ∧
    (c.intent = none → e.broken = false → c.found = none →
      (s.endScan c count head).events.report = report (some c.openNumber) ∧
        (s.endScan c count head).jc =
          { p.jc with
            state := .recovering { c with step := .replay .undo (walk c.openNumber) }, work := reads c.openNumber })) ∧
  (∀ (s : State) (c : RecoveryCtx) (k : Course) (w : Walk) (e : OpenEpoch) (target : Word), s.jc.state = .recovering c →
    c.step = .replay k w → w.left = 0 → s.jc.epoch = some e →
    (k = .redo ∧ c.intent = some target ∨ k = .undo ∧ target = c.openNumber) →
    ∃ (t : State) (n : Nat), s.recoveryStep c = some t ∧
      n = ((s.jc.directory.filter fun d => target ≤ d.number).map DirEntry.slots).sum + e.preImages +
        (if c.found = none then 0 else 1) ∧
      t.jc.state = .recovering { c with step := .tagWait k } ∧ t.jc.occupancy = s.jc.occupancy - n ∧
      t.jc.nextSeq = s.jc.nextSeq - BitVec.ofNat 32 n ∧
      t.jc.directory = (s.jc.directory.filter fun d => d.number < target) ∧ t.jc.tail = s.jc.tail ∧ t.jc.epoch = s.jc.epoch ∧
      (∀ d, s.jc.directory.find? (fun x => x.number = target) = some d → t.jc.head = d.firstSlot) ∧
      ((∀ d ∈ s.jc.directory, d.number ≠ target) → t.jc.head = e.firstSlot) ∧
      t.windows = s.windows ∧ t.tags = s.tags ∧ t.events = s.events ∧ t.port = s.port) ∧
  (∀ (s : State) (c : RecoveryCtx) (k : Course), s.jc.state = .recovering c → c.step = .tagWait k →
    (s.tags.done ≠ .all → s.recoveryStep c = none) ∧
    (s.tags.done = .all → c.openNumber ≠ 0xFFFFFFFF →
      ∃ (t : State) (a : AnchorWrite), s.recoveryStep c = some t ∧ t.jc.state = .recovering { c with step := .anchor k } ∧
        t.jc.epoch = some
          { number := c.openNumber + 1, firstSlot := s.jc.head, firstSeq := s.jc.nextSeq, preImages := 0, writes := 0,
            broken := decide (k = .broken), generation := generationOf (c.openNumber.toNat + 1) } ∧
        t.jc.directory = s.jc.directory ∧ t.jc.tail = s.jc.tail ∧ t.jc.head = s.jc.head ∧ t.jc.occupancy = s.jc.occupancy ∧
        t.windows = s.windows ∧ t.tags = s.tags ∧ t.events = s.events ∧ t.anchor.active = some a ∧ a.requester = .recovery ∧
        a.image.openNumber = c.openNumber + 1 ∧ a.image.openFirstSlot = s.jc.head ∧ a.image.openFirstSeq = s.jc.nextSeq ∧
        a.image.openBroken = decide (k = .broken) ∧ a.image.directory = s.jc.directory ∧ a.image.tail = s.jc.tail ∧
        a.image.occupancy = s.jc.occupancy ∧ a.image.table = s.windows.committed ∧ a.image.intent = none) ∧
    (s.tags.done = .all → c.openNumber = 0xFFFFFFFF →
      ∃ t : State, s.recoveryStep c = some t ∧
        t.jc = { s.jc with
          state := .damaged .exhausted
          epoch := if k = .forward then none else s.jc.epoch
          timer := .idle
          room := none
          work := none } ∧
        t.events.flags = s.events.flags ||| 0x040 ∧
        t.events.report = (s.events.report.map fun x => { x with finish := some s.stamp, outcome := some .damaged }) ∧
        t.link = s.link ∧ t.windows = s.windows ∧ t.tags = s.tags)) ∧
  (∀ (s : State) (r t : Request) (a : AnchorWrite) (c : RecoveryCtx) (k : Course) (e : OpenEpoch) (got data : List Byte),
    s.inReset = false → s.port.inFlight = some (.controller, r) →
    s.jc.work = some { owner := .update, todo := [t], got := got } → s.anchor.active = some a → a.requester = .recovery →
    s.jc.state = .recovering c → c.step = .anchor k → s.jc.epoch = some e →
    ∃ u : State, exec (.memoryResponse (.okay data)) s = .next (u.examineHead.finish s.claimWaits) ∧
      u.jc.state = (if k = .broken then .unguarded else .opened) ∧
      u.events.report = (s.events.report.map fun x => { x with
        finish := some s.stamp
        outcome := some (match k with
          | .redo => .complete
          | .broken => .notSafe
          | .forward => .rolledForward
          | .undo => .complete) }) ∧
      (k = .redo ∨ k = .undo → u.events.flags = s.events.flags ||| 0x008) ∧
      (k = .broken → u.events.flags = s.events.flags ||| 0x008 ||| 0x020) ∧
      (k = .forward → u.events.flags = if c.dropped then s.events.flags ||| 0x008 ||| 0x010 else s.events.flags ||| 0x008) ∧
      (∀ i, k = .forward → c.found = some i → u.jc.windowLost = (s.jc.windowLost || i.changed)) ∧
      (k ≠ .forward → u.jc.windowLost = s.jc.windowLost) ∧
      u.tags = { s.tags with activity := .retiring (generationOf (e.number.toNat + 1)), done := .absent } ∧
      u.jc.timer = (if s.link.policies.autoCommit = 0 then .idle
          else if s.lines.halt then .paused s.link.policies.autoCommit else .running s.link.policies.autoCommit) ∧
      u.link.lastResult = s.link.lastResult ∧ u.link.lastOp = s.link.lastOp ∧ u.lines = s.lines ∧ u.windows = s.windows ∧
      u.front = s.front)

/-! ### FORMAT, CLEAR DAMAGE and DISCARD -/

/-- R110: once no head is in progress (and no unguard's update still runs, log 19) a format from UNFORMATTED, or with the new
number 1, scrubs every slot, from 0 up to the last, one after the other; the invalidation follows, slot 0 first when slot 1 is the
newest, then slot 1; then slot 0 is written with the anchor of the new journal. R46, R98, R110, R187, R189: the scrub image is
valid at no slot of the ring, whatever is expected there; the invalidation image is 508 bytes of 0 and a check code, the smallest
of 0, 1 and 2 that passes for neither anchor slot, and is valid in neither under any straps. R110, R111: slot 0's last write is
answered OKAY: the newest slot is 0 with sequence 1 and the new format number, the ring and the directory are empty, and epoch 1
is open; the committed table follows once no head is in progress. R111: a format whose full clear has ended completes: FORMATTED
is raised, OPEN is entered, the retire sweep and the timer start, the result is DONE. -/
def Obligations.AFormatWritesSlotZeroAndCompletes : Prop :=
  (∀ (slot : Nat) (f : Half) (q lo hi : Word), validRecord slot f q lo hi (List.replicate 48 0xFF) = none) ∧
  (let code := leWord (fieldAt 508 4 invalidationImage)
   let passing := fun n : Nat => crc32 (List.replicate 508 0 ++ leBytes 4 n)
   invalidationImage.length = 512 ∧ invalidationImage.take 508 = List.replicate 508 0 ∧ code ≤ 2 ∧ code ≠ passing 0 ∧
     code ≠ passing 1 ∧ (∀ smaller < code, smaller = passing 0 ∨ smaller = passing 1) ∧
     ∀ (t : AnchorSlot) (jb : BitVec 4) (js : BitVec 3), validAnchor t jb js invalidationImage = none) ∧
  (∀ (s : State) (c : FormatCtx), c.step = .headWait → s.inProgress = true ∨ s.jc.room ≠ none → s.formatStep c = none) ∧
  (∀ (s : State) (c : FormatCtx), s.inProgress = false → s.jc.room = none → c.step = .headWait →
    ((c.cameFrom = .unformatted ∨ c.number = 1) → s.formatStep c = some
      { s with
        jc.state := .formatting { c with step := .scrub 0 }
        jc.work := some { owner := .scrub, todo := recordWrites s.base 0 (List.replicate 48 0xFF), got := [] } }) ∧
    (c.cameFrom ≠ .unformatted → c.number ≠ 1 →
      s.formatStep c = some (if (s.anchor.newest.map Newest.slot) = some .slot1 then
        { s with
          jc.state := .formatting { c with step := .invalidate0 }
          jc.work := some { owner := .invalidate0, todo := anchorWrites s.base .slot0 invalidationImage, got := [] } }
      else
        { s with
          jc.state := .formatting { c with step := .invalidate1 }
          jc.work := some { owner := .invalidate1, todo := anchorWrites s.base .slot1 invalidationImage, got := [] } }))) ∧
  (∀ (s : State) (r t : Request) (c : FormatCtx) (o : Owner) (got data : List Byte), s.inReset = false →
    s.port.inFlight = some (.controller, r) → s.jc.work = some { owner := o, todo := [t], got := got } →
    s.jc.state = .formatting c →
    (∀ slot, o = .scrub → c.step = .scrub slot → slot + 1 < s.capacity →
      exec (.memoryResponse (.okay data)) s = .next (State.finish s.claimWaits
        { s with
          port.inFlight := none
          jc.state := .formatting { c with step := .scrub (slot + 1) }
          jc.work := some
            { owner := .scrub, todo := recordWrites s.base (slot + 1) (List.replicate 48 0xFF), got := [] } })) ∧
    (∀ slot, o = .scrub → c.step = .scrub slot → s.capacity ≤ slot + 1 →
      exec (.memoryResponse (.okay data)) s = .next (State.finish s.claimWaits
        (if (s.anchor.newest.map Newest.slot) = some .slot1 then
          { s with
            port.inFlight := none
            jc.state := .formatting { c with step := .invalidate0 }
            jc.work := some { owner := .invalidate0, todo := anchorWrites s.base .slot0 invalidationImage, got := [] } }
        else
          { s with
            port.inFlight := none
            jc.state := .formatting { c with step := .invalidate1 }
            jc.work := some { owner := .invalidate1, todo := anchorWrites s.base .slot1 invalidationImage, got := [] } }))) ∧
    (o = .invalidate0 → c.step = .invalidate0 →
      exec (.memoryResponse (.okay data)) s = .next (State.finish s.claimWaits
        { s with
          port.inFlight := none
          jc.state := .formatting { c with step := .invalidate1 }
          jc.work := some { owner := .invalidate1, todo := anchorWrites s.base .slot1 invalidationImage, got := [] } })) ∧
    (o = .invalidate1 → c.step = .invalidate1 →
      exec (.memoryResponse (.okay data)) s = .next (State.finish s.claimWaits
        { s with
          port.inFlight := none
          jc.state := .formatting { c with step := .slot0 }
          jc.work := some
            { owner := .slot0
              todo := anchorWrites s.base .slot0
                (Anchor.encode .slot0
                  { seq := 1, format := c.number, jsize := s.jsize.setWidth 8, jbase := s.jbase.setWidth 8,
                    table := c.copy.table, directory := [], openNumber := 1, openFirstSlot := 0, openFirstSeq := 0,
                    openBroken := false, tail := 0, occupancy := 0, intent := none })
              got := [] } })) ∧
    (o = .slot0 → c.step = .slot0 →
      exec (.memoryResponse (.okay data)) s = .next (State.finish s.claimWaits
        { s with
          port.inFlight := none
          anchor := { active := none, newest := some { slot := .slot0, seq := 1 }, format := c.number }
          jc.state := .formatting { c with step := .apply }
          jc.work := none
          jc.directory := []
          jc.tail := 0
          jc.head := 0
          jc.occupancy := 0
          jc.nextSeq := 0
          jc.room := none
          jc.epoch := some
            { number := 1, firstSlot := 0, firstSeq := 0, preImages := 0, writes := 0, broken := false, generation := 1 } }))) ∧
  (∀ (u : State) (c : FormatCtx), c.step = .apply →
    (u.inProgress = true → u.formatStep c = none) ∧
    (u.inProgress = false → u.formatStep c = some
      { u with
        windows := ⟨c.copy.table, u.windows.staged, decide (u.windows.staged ≠ c.copy.table)⟩
        jc.windowLost := u.jc.windowLost && !c.copy.differs
        tags.activity := .fullClear
        tags.done := .absent
        jc.state := .formatting { c with step := .clear } })) ∧
  (∀ (s : State) (c : FormatCtx) (e : OpenEpoch), s.jc.state = .formatting c → c.step = .clear → s.jc.epoch = some e →
    (s.tags.done ≠ .all → s.formatStep c = none) ∧
    (s.tags.done = .all → s.formatStep c = some
      { s with
        jc.state := .opened
        jc.timer := if s.link.policies.autoCommit = 0 then .idle
          else if s.lines.halt then .paused s.link.policies.autoCommit else .running s.link.policies.autoCommit
        tags.activity := .retiring (generationOf (e.number.toNat + 1))
        tags.done := .absent
        events.flags := s.events.flags ||| 0x800
        events.raisedSince := s.events.raisedSince ||| 0x800
        link.lastOp := some .format
        link.lastResult := .done }))

/-- R114: a clearing empties directory and ring and starts a full clear once no head is in progress, opens epoch n + 1 at head
when the clear has ended, applies its copy, asks for the anchor update, and completes into OPEN without an event, with sweep and timer
started. It waits while a head is in progress (R8 for its table, too) and while the sweep-done mark is not all. R31: with n =
4,294,967,295 no epoch opens: the controller enters DAMAGED with cause EXHAUSTED and the result is FAILED. R108: the
discard's update completes: the discard set leaves the directory, tail and occupancy follow, the state it came from returns, a
PAUSED timer runs on when no halt is in force, and the result is DONE; no event is raised. -/
def Obligations.ClearingAndDiscardComplete : Prop :=
  (∀ (s : State) (c : ClearCtx) (e : OpenEpoch), s.jc.epoch = some e → s.jc.state = .clearing c →
    (c.step = .headWait → s.inProgress = false → s.clearingStep c = some
      { s with
        jc.directory := []
        jc.tail := s.jc.head
        jc.occupancy := 0
        jc.state := .clearing { c with step := .clear }
        tags.activity := .fullClear
        tags.done := .absent }) ∧
    ((c.step = .headWait ∨ c.step = .apply) → s.inProgress = true → s.clearingStep c = none) ∧
    (c.step = .clear → s.tags.done ≠ .all → s.clearingStep c = none) ∧
    (c.step = .anchor → s.clearingStep c = none) ∧
    (c.step = .clear → s.tags.done = .all → e.number = 0xFFFFFFFF → ∃ t : State, s.clearingStep c = some t ∧
      t.jc = { s.jc with state := .damaged .exhausted, timer := .idle, room := none, work := none } ∧
      t.events.flags = s.events.flags ||| 0x040 ∧ t.events.report = s.events.report ∧
      t.link = { s.link with lastOp := some .clearDamage, lastResult := .failed } ∧ t.windows = s.windows ∧ t.tags = s.tags) ∧
    (c.step = .clear → s.tags.done = .all → e.number ≠ 0xFFFFFFFF → s.clearingStep c = some
      { s with
        jc.state := .clearing { c with step := .apply }
        jc.epoch := some
          { number := e.number + 1, firstSlot := s.jc.head, firstSeq := s.jc.nextSeq, preImages := 0, writes := 0, broken := false,
            generation := generationOf (e.number.toNat + 1) } }) ∧
    (c.step = .apply → s.inProgress = false → ∃ (t : State) (a : AnchorWrite), s.clearingStep c = some t ∧ t.windows.committed = c.copy.table ∧
      t.windows.staged = s.windows.staged ∧ t.jc.state = .clearing { c with step := .anchor } ∧ t.anchor.active = some a ∧
      a.requester = .clearing ∧ a.image.table = c.copy.table ∧ a.image.openNumber = e.number ∧ a.image.intent = none) ∧
    (∀ (r t : Request) (a : AnchorWrite) (got data : List Byte), s.inReset = false → s.port.inFlight = some (.controller, r) →
      s.jc.work = some { owner := .update, todo := [t], got := got } → s.anchor.active = some a → a.requester = .clearing →
      ∃ u : State, exec (.memoryResponse (.okay data)) s = .next (u.finish s.claimWaits) ∧
        u.jc = { s.jc with
          state := .opened
          work := none
          timer := if s.link.policies.autoCommit = 0 then .idle
            else if s.lines.halt then .paused s.link.policies.autoCommit else .running s.link.policies.autoCommit } ∧
        u.events = s.events ∧ u.link.lastResult = .done ∧ u.link.lastOp = some .clearDamage ∧
        u.tags = { s.tags with activity := .retiring (generationOf (e.number.toNat + 1)), done := .absent })) ∧
  (∀ (s : State) (r t : Request) (a : AnchorWrite) (c : DiscardCtx) (got data : List Byte), s.inReset = false →
    s.port.inFlight = some (.controller, r) → s.jc.work = some { owner := .update, todo := [t], got := got } →
    s.anchor.active = some a → a.requester = .discard → s.jc.state = .discarding c →
    exec (.memoryResponse (.okay data)) s = .next (State.finish s.claimWaits
      { s with
        port.inFlight := none
        anchor.active := none
        anchor.newest := some { slot := a.target, seq := a.seq }
        jc.work := none
        jc.state := if c.fromUnguarded then .unguarded else .opened
        jc.directory := s.jc.directory.drop c.count
        jc.tail := c.newTail
        jc.occupancy := s.jc.occupancy - c.freed
        jc.timer := if s.lines.halt then s.jc.timer else
          match s.jc.timer with
          | .idle => .idle
          | .running ms => .running ms
          | .paused ms => .running ms
        link.lastOp := some .discard
        link.lastResult := .done }))

/-! ### Passes over the tag store, timers and halt -/

/-- R38, R40: the retire sweep for r ends: every entry that held r reads 0, every other entry reads as before, the activity is
NONE and the done mark r (at the end, log 13). With no retire sweep running nothing ends. R39, R40: the full clear ends: every
entry reads 0, the activity is NONE and the done mark all. With no full clear running nothing ends. R37: setting a tag changes
that entry and no other, and keeps the store's canonical form. -/
def Obligations.TagsAreSetAndSwept : Prop :=
  ((∀ (s : State) (r : Gen), s.inReset = false → s.tags.activity = .retiring r → s.tags.store.wf = true →
    ∃ st : TagStore, (∀ n, st.read n = if s.tags.store.read n = r then 0 else s.tags.store.read n) ∧ st.wf = true ∧
      exec .retireSweepEnd s = .next (State.finish s.claimWaits
        { s with tags := { store := st, activity := .idle, done := .gen r } })) ∧
    ∀ s : State, s.inReset = false → (∀ r, s.tags.activity ≠ .retiring r) →
      exec .retireSweepEnd s = .next (s.finish s.claimWaits)) ∧
  ((∀ s : State, s.inReset = false → s.tags.activity = .fullClear →
    ∃ st : TagStore, (∀ n, st.read n = 0) ∧ st.wf = true ∧
      exec .fullClearEnd s = .next (State.finish s.claimWaits
        { s with tags := { store := st, activity := .idle, done := .all } })) ∧
    ∀ s : State, s.inReset = false → s.tags.activity ≠ .fullClear → exec .fullClearEnd s = .next (s.finish s.claimWaits)) ∧
  (∀ (st : TagStore) (t : Nat) (g : Gen), st.wf = true →
    (st.set t g).wf = true ∧ (st.set t g).read t = g ∧ ∀ u, u ≠ t → (st.set t g).read u = st.read u)

/-- R80: the auto-commit timer expires: with no pre-image it starts again; with one it is a commit, which leaves the last long
operation as it stands; with the mark set it is dropped. A timer that does not run does not expire. -/
def Obligations.TheAutoCommitTimerExpires : Prop :=
  ∀ (s : State), s.inReset = false →
    (∀ ms, s.jc.timer = .running ms → (∀ e, s.jc.epoch = some e → e.preImages = 0) → s.lines.halt = false →
      exec .autoCommitExpiry s = .next (State.finish s.claimWaits
        { s with jc.timer :=
            if s.link.policies.autoCommit = 0 then .idle else .running s.link.policies.autoCommit })) ∧
    (∀ ms e, s.jc.timer = .running ms → s.jc.epoch = some e → e.preImages ≠ 0 → (s.name = .opened ∨ s.name = .unguarded) →
      s.mark = false → s.lines.halt = false →
      exec .autoCommitExpiry s = .next (State.finish s.claimWaits
        { s with
          jc.state := .committing
            { copy := { table := s.windows.staged, differs := s.windows.stagedDiffers }, byCommand := false, dropped := false,
              step := .drain }
          jc.timer := .idle
          front.queue := s.front.queue.map fun e => { e with marked := true } })) ∧
    (∀ ms e, s.jc.timer = .running ms → s.jc.epoch = some e → e.preImages ≠ 0 → s.mark = true →
      exec .autoCommitExpiry s = .next (State.finish s.claimWaits { s with jc.timer := .idle })) ∧
    ((∀ ms, s.jc.timer ≠ .running ms) → exec .autoCommitExpiry s = .next (s.finish s.claimWaits))

/-- R79, R167, R168, R170: a halt comes into force and pauses a RUNNING timer; its end runs a PAUSED one on in OPEN and
UNGUARDED. Under halt a head not in progress is answered HALTED with no transaction and no event, and the controller raises no
claim. -/
def Obligations.AHaltBeginsAndEnds : Prop :=
  (∀ s : State, s.inReset = false →
    exec .haltBegin s = .next (State.finish s.claimWaits
      { s with
        lines.halt := true
        jc.timer := match s.jc.timer with
          | .idle => .idle
          | .running ms => .paused ms
          | .paused ms => .paused ms }) ∧
    exec .haltEnd s = .next (State.finish s.claimWaits
      { s with
        lines.halt := false
        jc.timer := if s.name = .opened ∨ s.name = .unguarded then
            match s.jc.timer with
            | .idle => .idle
            | .running ms => .running ms
            | .paused ms => .running ms
          else s.jc.timer })) ∧
  (∀ s : State, s.inReset = true → exec .haltBegin s = .next { s with lines.halt := true } ∧
    exec .haltEnd s = .next { s with lines.halt := false }) ∧
  (∀ (s : State) (e : Entry) (rest : List Entry), s.lines.halt = true → s.inProgress = false → s.front.queue = e :: rest →
    s.headStep = some
      { s with
        front.queue := rest
        front.phase := .waiting
        front.holdTimer := none
        front.holdReason := none
        front.responses := s.front.responses ++ [{ status := .halted, data := List.replicate e.req.returnSize 0xFF }]
        save := .idle }) ∧
  ∀ s : State, s.lines.halt = true → s.raiseCtlClaim = s

/-- R172: the stamp counter rises by 1 and wraps, SET STAMP loads it and GET STAMP reports it, and nothing else changes but the
frame. -/
def Obligations.TheStampCounter : Prop :=
  (∀ s : State, s.inReset = false → exec .stampIncrement s = .next { s with stamp := s.stamp + 1 }) ∧
    ∀ s : State, s.linkReady = true →
      (∀ v, exec (.setStamp v) s = .next
        { s with
          stamp := v
          link.csLow := true
          link.pos := .turnaround
          link.answer := some { result := .done, response := [] } }) ∧
      ∃ b : List Byte, b.length = 4 ∧ leNat b = s.stamp.toNat ∧ exec .getStamp s = .next
        { s with
          link.csLow := true
          link.pos := .turnaround
          link.answer := some { result := .done, response := b } }

/-! ### The lines -/

/-- R162, R163, R164: each sample of a line at its qualified level sets the run count to 0 and at the other raises it by 1; a run that
then stands at Q + 1 or above takes the sampled level on that event, with run count 0, and an assertion so qualified makes its
request on that event; of two requests either may be first (R118, log 15); nothing else changes. LINE_QUALIFY is that sampling event
for the line whose run it completes, and has no effect of its own where the run is not complete (log 7). R78, R165: the request of
CKPT_REQ is a commit in OPEN or UNGUARDED with the mark clear and no halt, else it is latched, or discarded with LINE_DISCARDED when
the latch is full. R116, R165: the request of FALLBACK_REQ is a rollback to the open epoch in OPEN with the mark clear and no halt; in
UNGUARDED, ROLLING_BACK, UNFORMATTED and DAMAGED, or with the latch full, it is discarded with LINE_DISCARDED; else it is latched.
R78, R117, R166: an offer of a full CKPT latch is taken as a commit, with the latch emptied, in OPEN or UNGUARDED with the mark clear
and no halt, and stays latched otherwise; an offer of a full FALLBACK latch is taken in OPEN with the mark clear and no halt as the
rollback to the open epoch, is discarded with LINE_DISCARDED in UNGUARDED, ROLLING_BACK, UNFORMATTED and DAMAGED, and stays latched
otherwise; an empty latch offers nothing. Of two offers that can both be made either may be first (log 15). R86, R123: where the latches
are offered before a head is handled, the one that can still be offered after the first is offered too. -/
def Obligations.TheLinesAreSampledAndQualify : Prop :=
  (∀ (s : State) (a b : Bool), s.inReset = false →
    let q := s.link.policies.qualify.toNat
    let sampled := fun (x : Qualifier) (level : Bool) =>
      if level = x.asserted then { x with run := 0 }
      else if q + 1 ≤ x.run + 1 then { asserted := level, run := 0 } else { x with run := x.run + 1 }
    let asserts := fun (x : Qualifier) (level : Bool) => level = true ∧ x.asserted = false ∧ q + 1 ≤ x.run + 1
    let t : State := { s with lines.ckpt := sampled s.lines.ckpt a, lines.fallback := sampled s.lines.fallback b }
    (¬asserts s.lines.ckpt a → ¬asserts s.lines.fallback b →
      exec (.lineSamplingEvent a b) s = .next (t.finish s.claimWaits)) ∧
    (asserts s.lines.ckpt a → ¬asserts s.lines.fallback b →
      exec (.lineSamplingEvent a b) s = .next (t.ckptRequest.finish s.claimWaits)) ∧
    (¬asserts s.lines.ckpt a → asserts s.lines.fallback b →
      exec (.lineSamplingEvent a b) s = .next (t.fallbackRequest.finish s.claimWaits)) ∧
    (asserts s.lines.ckpt a → asserts s.lines.fallback b → ∃ u : State,
      (u = t.drawn.ckptRequest.fallbackRequest ∨ u = t.drawn.fallbackRequest.ckptRequest) ∧
        exec (.lineSamplingEvent a b) s = .next (u.finish s.claimWaits))) ∧
  (∀ (s : State) (other : Bool), s.inReset = false →
    (s.link.policies.qualify.toNat + 1 ≤ s.lines.ckpt.run + 1 →
      exec (.lineQualify (.ckpt other)) s = exec (.lineSamplingEvent (!s.lines.ckpt.asserted) other) s ∧
      ∃ u : State, exec (.lineQualify (.ckpt other)) s = .next (u.finish s.claimWaits) ∧
        u.lines.ckpt = { asserted := !s.lines.ckpt.asserted, run := 0 }) ∧
    (s.link.policies.qualify.toNat + 1 ≤ s.lines.fallback.run + 1 →
      exec (.lineQualify (.fallback other)) s = exec (.lineSamplingEvent other (!s.lines.fallback.asserted)) s ∧
      ∃ u : State, exec (.lineQualify (.fallback other)) s = .next (u.finish s.claimWaits) ∧
        u.lines.fallback = { asserted := !s.lines.fallback.asserted, run := 0 }) ∧
    (s.lines.ckpt.run + 1 < s.link.policies.qualify.toNat + 1 →
      exec (.lineQualify (.ckpt other)) s = .next (s.finish s.claimWaits)) ∧
    (s.lines.fallback.run + 1 < s.link.policies.qualify.toNat + 1 →
      exec (.lineQualify (.fallback other)) s = .next (s.finish s.claimWaits))) ∧
  (∀ s : State,
    ((s.name = .opened ∧ s.mark = false ∨ s.name = .unguarded) → s.lines.halt = false →
      s.ckptRequest =
        { s with
          jc.state := .committing
            { copy := { table := s.windows.staged, differs := s.windows.stagedDiffers }, byCommand := false, dropped := false,
              step := .drain }
          jc.timer := .idle
          front.queue := s.front.queue.map fun e => { e with marked := true } }) ∧
    ((s.lines.halt = true ∨ s.mark = true ∨ s.name ≠ .opened ∧ s.name ≠ .unguarded) →
      s.ckptRequest =
        if s.lines.ckptLatch then
          { s with events.flags := s.events.flags ||| 0x400, events.raisedSince := s.events.raisedSince ||| 0x400 }
        else { s with lines.ckptLatch := true }) ∧
    (∀ e, s.jc.epoch = some e → s.name = .opened → s.mark = false → s.lines.halt = false →
      s.fallbackRequest =
        { s with
          jc.state := .rollingBack
            { target := e.number, openNumber := e.number, cause := .fallbackLine, start := s.stamp, step := .drain }
          jc.timer := .idle
          front.queue := s.front.queue.map fun e => { e with marked := true } }) ∧
    ((s.name = .unguarded ∨ s.name = .rollingBack ∨ s.name = .unformatted ∨ s.name = .damaged) →
      s.fallbackRequest =
        { s with events.flags := s.events.flags ||| 0x400, events.raisedSince := s.events.raisedSince ||| 0x400 }) ∧
    ((s.name = .opened ∧ (s.mark = true ∨ s.lines.halt = true) ∨ s.name = .anchorRead ∨ s.name = .recovering ∨
        s.name = .committing ∨ s.name = .discarding ∨ s.name = .formatting ∨ s.name = .clearing) →
      s.fallbackRequest =
        if s.lines.fallbackLatch then
          { s with events.flags := s.events.flags ||| 0x400, events.raisedSince := s.events.raisedSince ||| 0x400 }
        else { s with lines.fallbackLatch := true })) ∧
  (∀ s : State,
    (s.lines.ckptLatch = false → s.offerCkpt = none) ∧
    (s.lines.ckptLatch = true → (s.name = .opened ∧ s.mark = false ∨ s.name = .unguarded) → s.lines.halt = false →
      s.offerCkpt = some
        { s with
          lines.ckptLatch := false
          jc.state := .committing
            { copy := { table := s.windows.staged, differs := s.windows.stagedDiffers }, byCommand := false, dropped := false,
              step := .drain }
          jc.timer := .idle
          front.queue := s.front.queue.map fun e => { e with marked := true } }) ∧
    ((s.lines.halt = true ∨ s.mark = true ∨ s.name ≠ .opened ∧ s.name ≠ .unguarded) → s.offerCkpt = none) ∧
    (s.lines.fallbackLatch = false → s.offerFallback = none) ∧
    (∀ e, s.lines.fallbackLatch = true → s.jc.epoch = some e → s.name = .opened → s.mark = false → s.lines.halt = false →
      s.offerFallback = some
        { s with
          lines.fallbackLatch := false
          jc.state := .rollingBack
            { target := e.number, openNumber := e.number, cause := .fallbackLine, start := s.stamp, step := .drain }
          jc.timer := .idle
          front.queue := s.front.queue.map fun e => { e with marked := true } }) ∧
    (s.lines.fallbackLatch = true →
      (s.name = .unguarded ∨ s.name = .rollingBack ∨ s.name = .unformatted ∨ s.name = .damaged) →
      s.offerFallback = some
        { s with
          lines.fallbackLatch := false
          events.flags := s.events.flags ||| 0x400
          events.raisedSince := s.events.raisedSince ||| 0x400 }) ∧
    ((s.name = .opened ∧ (s.mark = true ∨ s.lines.halt = true) ∨ s.name = .anchorRead ∨ s.name = .recovering ∨
        s.name = .committing ∨ s.name = .discarding ∨ s.name = .formatting ∨ s.name = .clearing) →
      s.offerFallback = none)) ∧
  (∀ s : State,
    (s.offerFallback = none → s.offerStep = s.offerCkpt) ∧ (s.offerCkpt = none → s.offerStep = s.offerFallback) ∧
    (s.offerStep = none ∨ s.offerStep = s.offerCkpt ∨ s.offerStep = s.offerFallback ∨ s.offerStep = s.drawn.offerCkpt ∨
      s.offerStep = s.drawn.offerFallback) ∧
    (s.offerStep = none → s.offerLatches = s) ∧
    ∀ t, s.offerStep = some t →
      (t.offerStep = none → s.offerLatches = t) ∧ ∀ u, t.offerStep = some u → s.offerLatches = u)

/-! ### The management link -/

/-- R171: READY is asserted in OPEN, UNGUARDED, UNFORMATTED, COMMITTING and DISCARDING with no halt, and in no other case. R174: EVT_N
is asserted while a set flag's mask entry is on, and never throughout PRST_N. R177: MISO carries nothing while CS_N is high, and while
it is low the result code in the first ANSWER position, the response bytes one by one in those after it, and 0xFF in every other
position (IDLE with CS_N low after a reset is log 30). R190, R191: the codes of controller states, damage causes, results, last
long-operation results, long operations, report causes and outcomes, sweep activities with the generation that is retiring, sweep-done
marks, and the bits of the event flags. -/
def Obligations.TheOutputsAndTheirCodes : Prop :=
  (∀ s : State, (s.ready = true ↔ s.lines.halt = false ∧
      (s.name = .opened ∨ s.name = .unguarded ∨ s.name = .unformatted ∨ s.name = .committing ∨ s.name = .discarding)) ∧
    (s.evtAsserted = true ↔ s.inReset = false ∧ s.events.flags &&& s.events.mask ≠ 0)) ∧
  (∀ l : Link, (l.csLow = false → l.miso = none) ∧
    (∀ a, l.csLow = true → l.answer = some a →
      (l.pos = .answer 0 → l.miso = some a.result.code) ∧
      ∀ k, l.pos = .answer (k + 1) → l.miso = some (a.response.getD k 0xFF)) ∧
    (l.csLow = true → (∀ k, l.pos ≠ .answer k) → l.miso = some 0xFF)) ∧
  [CtlName.anchorRead, .unformatted, .recovering, .opened, .unguarded, .committing, .rollingBack, .discarding, .formatting,
    .clearing, .damaged].map CtlName.code = [0, 1, 2, 3, 4, 5, 6, 7, 8, 9, 10] ∧
  [none, some Cause.anchor, some .replay, some .scan, some .exhausted].map causeCode = [0, 1, 2, 3, 4] ∧
  [Result.done, .accepted, .busy, .notOpen, .noSuch, .notSafe, .badArgument, .overlap, .noTagRoom, .halted, .unknown].map
    Result.code = [0x00, 0x01, 0x02, 0x03, 0x04, 0x05, 0x06, 0x07, 0x08, 0x09, 0x0A] ∧
  [LongResult.done, .accepted, .notSafe, .failed, .none].map LongResult.code = [0x00, 0x01, 0x05, 0x0B, 0x0C] ∧
  [none, some LongOp.commit, some .rollback, some .discard, some .format, some .clearDamage].map longOpCode =
    [0, 1, 2, 3, 4, 5] ∧
  [ReportCause.command, .fallbackLine, .recovery].map ReportCause.code = [1, 2, 3] ∧
  [none, some ReportOutcome.complete, some .rolledForward, some .notSafe, some .damaged].map outcomeCode = [0, 1, 2, 3, 4] ∧
  (Sweep.idle.bytes = [0, 0] ∧ (∀ g : Gen, (Sweep.retiring g).bytes = [1, BitVec.ofNat 8 g.toNat]) ∧
    Sweep.fullClear.bytes = [2, 0]) ∧
  (SweepDone.absent.byte = 0 ∧ (∀ g : Gen, (SweepDone.gen g).byte = BitVec.ofNat 8 g.toNat) ∧ SweepDone.all.byte = 8) ∧
  [Event.committed, .sealFailed, .rolledBack, .recovered, .reclaimed, .unguarded, .damaged, .memoryError, .refused, .heldOut,
    .lineDiscarded, .formatted].map Event.bit = (List.range 12).map fun i => (1 : BitVec 12) <<< i

/-- R178: an assertion of CS_N in IDLE starts a frame; a deassertion returns the decoder to IDLE whatever its position. Neither
touches anything outside the link and the event unit. R177, R178: the end of a byte position moves the decoder on: the
turnaround byte to ANSWER, the answer's bytes one by one to OVERRUN, in which and in IDLE a byte is ignored; an argument byte
short of the count is kept; none of these touches the rest of the part. -/
def Obligations.FramesMoveTheDecoder : Prop :=
  ((∀ s : State, s.inReset = false → s.link.csLow = false →
    exec .frameStart s = .next { s with link.csLow := true, link.pos := .command, link.answer := none }) ∧
    (∀ s : State, s.link.csLow = true → exec .frameStart s = .next s) ∧
    (∀ s : State, ∃ t : State, exec .frameEnd s = .next t ∧ t.link.csLow = false ∧ (s.inReset = false → t.link.pos = .idle) ∧
      t.link.policies = s.link.policies ∧ t.link.lastOp = s.link.lastOp ∧ t.link.lastResult = s.link.lastResult ∧
      t.jc = s.jc ∧ t.front = s.front ∧ t.windows = s.windows ∧ t.tags = s.tags ∧ t.port = s.port ∧ t.lines = s.lines ∧
      t.save = s.save ∧ t.anchor = s.anchor ∧ t.stamp = s.stamp ∧ t.jbase = s.jbase ∧ t.jsize = s.jsize ∧
      t.inReset = s.inReset ∧ t.freeIndex = s.freeIndex ∧ t.pending = s.pending ∧
      t.events.mask = s.events.mask ∧ t.events.report = s.events.report) ∧
    ∀ s : State, s.inReset = true →
      exec .frameStart s = .next { s with link.csLow := true } ∧ exec .frameEnd s = .next { s with link.csLow := false }) ∧
  (∀ (s : State) (b : Byte), s.inReset = false →
    (s.link.pos = .idle ∨ s.link.pos = .overrun → exec (.bytePositionEnd b) s = .next s) ∧
    (s.link.pos = .turnaround → exec (.bytePositionEnd b) s = .next { s with link.pos := .answer 0 }) ∧
    (∀ k a, s.link.pos = .answer k → s.link.answer = some a →
      exec (.bytePositionEnd b) s = .next
        { s with link.pos := if k < a.response.length then .answer (k + 1) else .overrun }) ∧
    (∀ n r, s.link.pos = .command → commandShape b = some (n, r) → n ≠ 0 →
      exec (.bytePositionEnd b) s = .next { s with link.pos := .arguments b [] }) ∧
    (∀ code got n r, s.link.pos = .arguments code got → commandShape code = some (n, r) → got.length + 1 ≠ n →
      exec (.bytePositionEnd b) s = .next { s with link.pos := .arguments code (got ++ [b]) }) ∧
    (s.link.pos = .command → commandShape b = none →
      exec (.bytePositionEnd b) s = .next { s with
        link.csLow := true
        link.pos := .turnaround
        link.answer := some { result := .unknown, response := [] } }))

/-- R178, R190: the last byte of a command's frame executes that command: whatever a frame's bytes spell has the effect of the
command's own row (log 5, 6). R177, R178: a byte that names no command answers UNKNOWN and changes nothing; and a link command
that the frame is not ready for, whose byte comes after the response, is ignored (log 5). -/
def Obligations.FrameBytesExecuteTheirCommand : Prop :=
  ((∀ (s : State) (i : Instr) (code : Byte), s.inReset = false → i.wellFormed = true → frameBytes i = some (code, []) →
    s.link.pos = .command → exec (.bytePositionEnd code) s = exec i s) ∧
    ∀ (s : State) (i : Instr) (code b : Byte) (args : List Byte), s.inReset = false → i.wellFormed = true →
      frameBytes i = some (code, args ++ [b]) → s.link.pos = .arguments code args → exec (.bytePositionEnd b) s = exec i s) ∧
  ((∀ (s : State) (code : Byte), s.linkReady = true → exec (.unknownCommand code) s = .next
    { s with link.csLow := true, link.pos := .turnaround, link.answer := some { result := .unknown, response := [] } }) ∧
    ∀ (s : State) (i : Instr) (f : Byte × List Byte), s.linkReady = false → frameBytes i = some f → exec i s = .next s)

/-- R175: READ EVENTS captures and reports the flags as they stand; the end of its frame, with every response byte clocked out,
clears the captured flags not raised since, and a frame that ends earlier clears none. -/
def Obligations.ReadEventsLosesNoEvent : Prop :=
  (∀ s : State, s.linkReady = true → ∃ b : List Byte, b.length = 2 ∧ leNat b = s.events.flags.toNat ∧
    exec .readEvents s = .next
      { s with
        events.capture := some s.events.flags
        events.raisedSince := 0
        link.csLow := true
        link.pos := .turnaround
        link.answer := some { result := .done, response := b } }) ∧
    (∀ (s : State) (e : Event), (s.raise e).events =
      { s.events with flags := s.events.flags ||| e.bit, raisedSince := s.events.raisedSince ||| e.bit }) ∧
    ∀ (s : State) (c : BitVec 12), s.inReset = false → s.events.capture = some c → ∃ t : State, exec .frameEnd s = .next t ∧
      t.events.capture = none ∧
      (s.link.pos = .overrun → t.events.flags = s.events.flags &&& ~~~(c &&& ~~~s.events.raisedSince)) ∧
      (s.link.pos ≠ .overrun → t.events.flags = s.events.flags)

/-- R176, R181: SET EVENT MASK refuses a value with a bit beyond the twelfth; else the mask takes the value and EVT_N follows
it. It is taken in every state and under halt, and the flags are not changed. -/
def Obligations.SetEventMask : Prop :=
  ∀ (s : State) (v : Half), s.linkReady = true →
    (v &&& 0xF000 ≠ 0 → exec (.setEventMask v) s = .next
      { s with link.csLow := true, link.pos := .turnaround, link.answer := some { result := .badArgument, response := [] } }) ∧
    (v &&& 0xF000 = 0 → ∃ t : State, exec (.setEventMask v) s = .next t ∧
      t = { s with
        events.mask := v.setWidth 12
        link.csLow := true
        link.pos := .turnaround
        link.answer := some { result := .done, response := [] } } ∧
      t.evtAsserted = decide (s.events.flags &&& v.setWidth 12 ≠ 0))

/-- R182, R191: GET STATUS changes no state and answers 24 bytes, one snapshot: state, damage cause, the eight flags, the pointers
(all ones in ANCHOR_READ, in UNFORMATTED and in a FORMATTING taken from UNFORMATTED until slot 0 has been written; in RECOVERING
tail and occupancy with head and free all ones until the scan ends; in every other state as they stand), the format number, the
newest slot and sequence, and the last long operation with its result. -/
def Obligations.GetStatusReportsOneSnapshot : Prop :=
  ∀ s : State, s.linkReady = true → ∃ b : List Byte, b.length = 24 ∧
    exec .getStatus s = .next
      { s with link.csLow := true, link.pos := .turnaround, link.answer := some { result := .done, response := b } } ∧
    b.getD 0 0 = s.name.code ∧ b.getD 1 0 = causeCode s.damageCause ∧
    (b.getD 2 0).getLsbD 0 = s.mark ∧ (b.getD 2 0).getLsbD 1 = s.lines.halt ∧
    (b.getD 2 0).getLsbD 2 = s.windows.stagedDiffers ∧ (b.getD 2 0).getLsbD 3 = s.jc.windowLost ∧
    (b.getD 2 0).getLsbD 4 = s.lines.ckptLatch ∧ (b.getD 2 0).getLsbD 5 = s.lines.fallbackLatch ∧
    (b.getD 2 0).getLsbD 6 = s.ready ∧ (b.getD 2 0).getLsbD 7 = s.evtAsserted ∧
    (s.name = .anchorRead ∨ s.name = .unformatted → fieldAt 3 12 b = List.replicate 12 0xFF) ∧
    (∀ c, s.jc.state = .formatting c → c.cameFrom = .unformatted → c.step ≠ .apply → c.step ≠ .clear →
      fieldAt 3 12 b = List.replicate 12 0xFF) ∧
    (∀ c count slot, s.jc.state = .recovering c → c.step = .scan count slot →
      fieldAt 3 12 b = leBytes 3 s.jc.tail ++ [0xFF, 0xFF, 0xFF] ++ leBytes 3 s.jc.occupancy ++ [0xFF, 0xFF, 0xFF]) ∧
    ((s.name = .opened ∨ s.name = .unguarded ∨ s.name = .committing ∨ s.name = .rollingBack ∨ s.name = .discarding ∨
        s.name = .clearing ∨ s.name = .damaged ∨
        (∃ c, s.jc.state = .recovering c ∧ ∀ count slot, c.step ≠ .scan count slot) ∨
        (∃ c, s.jc.state = .formatting c ∧ (c.cameFrom ≠ .unformatted ∨ c.step = .apply ∨ c.step = .clear))) →
      fieldAt 3 12 b = leBytes 3 s.jc.tail ++ leBytes 3 s.jc.head ++ leBytes 3 s.jc.occupancy ++
        leBytes 3 (s.capacity - s.jc.occupancy) ∧
      (s.jc.tail < 2 ^ 24 → s.jc.head < 2 ^ 24 → s.jc.occupancy < 2 ^ 24 →
        leNat (fieldAt 3 3 b) = s.jc.tail ∧ leNat (fieldAt 6 3 b) = s.jc.head ∧ leNat (fieldAt 9 3 b) = s.jc.occupancy ∧
          leNat (fieldAt 12 3 b) = s.capacity - s.jc.occupancy)) ∧
    (s.anchor.newest = none → fieldAt 15 7 b = [0, 0, 0xFF, 0, 0, 0, 0]) ∧
    (∀ n, s.anchor.newest = some n → leHalf (fieldAt 15 2 b) = s.anchor.format ∧
      b.getD 17 0 = BitVec.ofNat 8 n.slot.number ∧ leWord (fieldAt 18 4 b) = n.seq) ∧
    b.getD 22 0 = longOpCode s.link.lastOp ∧ b.getD 23 0 = s.link.lastResult.code

/-- R24, R133, R183, R184, R191: GET IDENTITY, GET POLICY, GET REPORT and GET WINDOW change no state but their frame and answer
their layouts; GET WINDOW is refused in ANCHOR_READ and for a table or slot that does not exist. That GET REPORT's present byte of
a report held and GET WINDOW's staged-differs byte with the flag set are 1 is the model's choice (log 34); that GET WINDOW sends
the mode in a byte of its own and a plain length is the model's choice too (log 33), and so is the execution event as the moment of
GET REPORT's values (log 37). -/
def Obligations.TheReportsAnswer : Prop :=
  ∀ s : State, s.linkReady = true →
    let frame := fun (r : Result) (b : List Byte) =>
      { s with link.csLow := true, link.pos := .turnaround, link.answer := some { result := r, response := b } }
    exec .getIdentity s = .next (frame .done
      ([s.jbase.setWidth 8] ++ leBytes 4 (4194304 * s.jbase.toNat) ++ [s.jsize.setWidth 8] ++
        leBytes 4 (32768 * 2 ^ s.jsize.toNat) ++ leBytes 4 ((32768 * 2 ^ s.jsize.toNat - 1024) / 48) ++ [0x6A, 0x09, 1])) ∧
    exec .getPolicy s = .next (frame .done
      ([if s.link.policies.reclaim then 1 else 0] ++ leBytes 2 s.link.policies.autoCommit.toNat ++
        leBytes 2 s.link.policies.holdLimit.toNat ++ [s.link.policies.qualify.setWidth 8])) ∧
    (s.events.report = none → exec .getReport s = .next (frame .done (List.replicate 23 0))) ∧
    (∀ r, s.events.report = some r → ∃ b : List Byte, b.length = 23 ∧ exec .getReport s = .next (frame .done b) ∧ b.getD 0 0 = 1 ∧
      b.getD 1 0 = r.cause.code ∧ leWord (fieldAt 2 4 b) = r.target.getD 0 ∧ leWord (fieldAt 6 4 b) = r.openAtStart ∧
      leNat (fieldAt 10 3 b) = r.replayed % 2 ^ 24 ∧ leWord (fieldAt 13 4 b) = r.start ∧
      leWord (fieldAt 17 4 b) = r.finish.getD 0 ∧ b.getD 21 0 = outcomeCode r.outcome) ∧
    ∀ table slot : Byte,
      (s.name = .anchorRead → exec (.getWindow table slot) s = .next (frame .busy (List.replicate 13 0xFF))) ∧
      (s.name ≠ .anchorRead → 1 < table.toNat ∨ 7 < slot.toNat →
        exec (.getWindow table slot) s = .next (frame .badArgument (List.replicate 13 0xFF))) ∧
      (s.name ≠ .anchorRead → table.toNat ≤ 1 → slot.toNat ≤ 7 → ∃ b : List Byte, b.length = 13 ∧
        exec (.getWindow table slot) s = .next (frame .done b) ∧
        (b.getD 12 0 = if s.windows.stagedDiffers then 1 else 0) ∧
        match (if table = 0 then s.windows.committed else s.windows.staged).getD slot.toNat none with
        | none => b.take 12 = List.replicate 12 0
        | some w => (b.getD 0 0 = match w.mode with | .journaled => 1 | .frozen => 2) ∧ fieldAt 1 4 b = leBytes 4 w.base ∧
          fieldAt 5 4 b = leBytes 4 w.length ∧
          fieldAt 9 3 b = leBytes 3 (match w.mode with
            | .journaled => ((((if table = 0 then s.windows.committed else s.windows.staged).take slot.toNat).map tagLength).sum)
            | .frozen => 0))

/-- R35, R105, R191: GET OPEN EPOCH and GET DIRECTORY ENTRY are refused by state and index in their order, and else report the
record, the passes of the tag store, and the entry as they stand; neither changes any state but its frame. -/
def Obligations.EpochAndDirectoryAreReported : Prop :=
  ∀ s : State, s.linkReady = true →
    let frame := fun (r : Result) (b : List Byte) =>
      { s with link.csLow := true, link.pos := .turnaround, link.answer := some { result := r, response := b } }
    (s.name = .anchorRead ∨ s.name = .recovering → exec .getOpenEpoch s = .next (frame .busy (List.replicate 24 0xFF))) ∧
    (s.name = .unformatted → exec .getOpenEpoch s = .next (frame .notOpen (List.replicate 24 0xFF))) ∧
    (s.name ≠ .anchorRead → s.name ≠ .recovering → s.name ≠ .unformatted → ∃ b : List Byte, b.length = 24 ∧
      exec .getOpenEpoch s = .next (frame .done b) ∧ b.getD 0 0 = s.name.code ∧
      (s.jc.epoch = none → fieldAt 1 20 b = List.replicate 20 0) ∧
      (∀ e, s.jc.epoch = some e → leWord (fieldAt 1 4 b) = e.number ∧ leWord (fieldAt 8 4 b) = e.firstSeq ∧
        leWord (fieldAt 15 4 b) = e.writes ∧ fieldAt 5 3 b = leBytes 3 e.firstSlot ∧ fieldAt 12 3 b = leBytes 3 e.preImages ∧
        (b.getD 19 0).getLsbD 0 = e.broken ∧ b.getD 20 0 = e.generation.setWidth 8) ∧
      fieldAt 21 2 b = s.tags.activity.bytes ∧ b.getD 23 0 = s.tags.done.byte) ∧
    ∀ k : Byte,
      (14 < k.toNat → exec (.getDirectoryEntry k) s = .next (frame .badArgument (List.replicate 23 0xFF))) ∧
      (k.toNat ≤ 14 → s.name = .anchorRead ∨ s.name = .recovering →
        exec (.getDirectoryEntry k) s = .next (frame .busy (List.replicate 23 0xFF))) ∧
      (k.toNat ≤ 14 → s.name = .unformatted →
        exec (.getDirectoryEntry k) s = .next (frame .notOpen (List.replicate 23 0xFF))) ∧
      (k.toNat ≤ 14 → s.name ≠ .anchorRead → s.name ≠ .recovering → s.name ≠ .unformatted →
        s.jc.directory.length ≤ k.toNat → exec (.getDirectoryEntry k) s = .next (frame .noSuch (List.replicate 23 0xFF))) ∧
      ∀ d, k.toNat ≤ 14 → s.name ≠ .anchorRead → s.name ≠ .recovering → s.name ≠ .unformatted →
        s.jc.directory[k.toNat]? = some d → ∃ b : List Byte, b.length = 23 ∧ exec (.getDirectoryEntry k) s = .next (frame .done b) ∧
          b.getD 0 0 = BitVec.ofNat 8 s.jc.directory.length ∧ leWord (fieldAt 1 4 b) = d.number ∧
          fieldAt 5 3 b = leBytes 3 d.firstSlot ∧ fieldAt 8 3 b = leBytes 3 d.slots ∧ fieldAt 11 3 b = leBytes 3 d.preImages ∧
          leWord (fieldAt 14 4 b) = d.writes ∧ leWord (fieldAt 18 4 b) = d.stamp ∧ (b.getD 22 0).getLsbD 0 = d.broken

/-- R184, R190: SET POLICY writes the policy its selector names, and is refused with no policy changed for a selector that names
none, a reclaim value that is neither 0 nor 1, or a qualify count above 15. R185: LINK RESET clears the flags, restores the
default mask and policies, empties both latches, copies the committed table into the staged one and forgets the last long
operation; everything else stands. -/
def Obligations.PoliciesAreSetAndReset : Prop :=
  (∀ (s : State) (v : Half), s.linkReady = true →
    let frame := fun (r : Result) (p : Policies) =>
      { s with
        link.csLow := true
        link.pos := .turnaround
        link.answer := some { result := r, response := [] }
        link.policies := p }
    exec (.setPolicy 0 v) s = .next
      (if v = 0 then frame .done { s.link.policies with reclaim := false }
      else if v = 1 then frame .done { s.link.policies with reclaim := true } else frame .badArgument s.link.policies) ∧
    exec (.setPolicy 1 v) s = .next (frame .done { s.link.policies with autoCommit := v }) ∧
    exec (.setPolicy 2 v) s = .next (frame .done { s.link.policies with holdLimit := v }) ∧
    exec (.setPolicy 3 v) s = .next
      (if v.toNat ≤ 15 then frame .done { s.link.policies with qualify := v.setWidth 4 } else frame .badArgument s.link.policies) ∧
    ∀ k : Byte, 3 < k.toNat → exec (.setPolicy k v) s = .next (frame .badArgument s.link.policies)) ∧
  (∀ s : State, s.linkReady = true → exec .linkReset s = .next
    { s with
      events.flags := 0
      events.mask := 0x2EE
      link.policies := { reclaim := true, autoCommit := 0, holdLimit := 0, qualify := 3 }
      link.lastOp := none
      link.lastResult := .none
      link.csLow := true
      link.pos := .turnaround
      link.answer := some { result := .done, response := [] }
      lines.ckptLatch := false
      lines.fallbackLatch := false
      windows.staged := s.windows.committed
      windows.stagedDiffers := false })

/-- R22: STAGE WINDOW makes its checks in order, and the first that fails gives the result and changes nothing; else the slot
takes the window and the staged-differs flag is worked out again. R190: the mode bytes 1 and 2 are JOURNALED and FROZEN. That the
length argument is a plain number whose bit 31 is never the mode is the model's choice (log 33). -/
def Obligations.StageWindowChecksInOrder : Prop :=
  ∀ (s : State) (slot mode : Byte) (base length : Word), s.linkReady = true →
    let frame := fun r : Result =>
      { s with link.csLow := true, link.pos := .turnaround, link.answer := some { result := r, response := [] } }
    let window := fun m : Mode => ({ base := base.toNat, length := length.toNat, mode := m } : Window)
    let shares := fun m : Mode =>
      (base.toNat < 131072 * s.jbase.toNat + 1024 * 2 ^ s.jsize.toNat ∧ 131072 * s.jbase.toNat < base.toNat + length.toNat) ∨
        ∃ i x, i ≠ slot.toNat ∧ s.windows.staged[i]? = some (some x) ∧ x.base < (window m).base + (window m).length ∧
          (window m).base < x.base + x.length
    let total := fun m : Mode => ((s.windows.staged.set slot.toNat (some (window m))).map tagLength).sum
    (s.name = .anchorRead → exec (.stageWindow slot base length mode) s = .next (frame .busy)) ∧
    (s.name ≠ .anchorRead → 7 < slot.toNat ∨ mode ≠ 1 ∧ mode ≠ 2 →
      exec (.stageWindow slot base length mode) s = .next (frame .badArgument)) ∧
    ∀ m, s.name ≠ .anchorRead → slot.toNat ≤ 7 → (mode = 1 ∧ m = .journaled ∨ mode = 2 ∧ m = .frozen) →
      (length.toNat = 0 ∨ 2097151 < base.toNat ∨ 2097152 < base.toNat + length.toNat →
        exec (.stageWindow slot base length mode) s = .next (frame .badArgument)) ∧
      (0 < length.toNat → base.toNat ≤ 2097151 → base.toNat + length.toNat ≤ 2097152 →
        (shares m → exec (.stageWindow slot base length mode) s = .next (frame .overlap)) ∧
        (¬shares m → m = .journaled → 131072 < total m →
          exec (.stageWindow slot base length mode) s = .next (frame .noTagRoom)) ∧
        (¬shares m → (m = .journaled → total m ≤ 131072) →
          exec (.stageWindow slot base length mode) s = .next
            { s with
              windows.staged := s.windows.staged.set slot.toNat (some (window m))
              windows.stagedDiffers := decide (s.windows.staged.set slot.toNat (some (window m)) ≠ s.windows.committed)
              link.csLow := true
              link.pos := .turnaround
              link.answer := some { result := .done, response := [] } }))

/-- R23: CLEAR WINDOW is refused BUSY in ANCHOR_READ and BAD_ARGUMENT for an index outside 0 to 7; else, under halt too, the
slot of the staged table becomes empty, the staged-differs flag is worked out again and the result is DONE; an empty slot stays
as it is. -/
def Obligations.ClearWindowEmptiesOneSlot : Prop :=
  ∀ (s : State) (slot : Byte), s.linkReady = true →
    let frame := fun r : Result =>
      { s with link.csLow := true, link.pos := .turnaround, link.answer := some { result := r, response := [] } }
    (s.name = .anchorRead → exec (.clearWindow slot) s = .next (frame .busy)) ∧
    (s.name ≠ .anchorRead → 7 < slot.toNat → exec (.clearWindow slot) s = .next (frame .badArgument)) ∧
    (s.name ≠ .anchorRead → slot.toNat ≤ 7 → exec (.clearWindow slot) s = .next
      { s with
        windows.staged := s.windows.staged.set slot.toNat none
        windows.stagedDiffers := decide (s.windows.staged.set slot.toNat none ≠ s.windows.committed)
        link.csLow := true
        link.pos := .turnaround
        link.answer := some { result := .done, response := [] } }) ∧
    (s.name ≠ .anchorRead → slot.toNat ≤ 7 → s.windows.staged[slot.toNat]? = some none → s.flagExact = true →
      exec (.clearWindow slot) s = .next (frame .done))

/-! ### Layouts and numbers -/

/-- R36: the generation of epoch e is ((e - 1) mod 7) + 1: consecutive epochs never share one, and e and e + 7 do. -/
def Obligations.TheGenerationOfAnEpoch : Prop :=
  ∀ e : Nat, 1 ≤ e → (generationOf e).toNat = (e - 1) % 7 + 1 ∧ generationOf (e + 1) ≠ generationOf e ∧
    generationOf (e + 7) = generationOf e

/-- R43, R44, R45: the ring's capacity is the table's for each JSIZE; every slot lies in the region behind the anchor slots; a
record's five transactions, writes and reads alike, go to the slot's addresses in ascending order, a granule and four words in an even
slot, four words and a granule in an odd one, all lanes set; the writes carry its 48 bytes in order and are aligned. -/
def Obligations.TheRingLiesInTheRegion : Prop :=
  (∀ js : BitVec 3, ringCapacity js = [661, 1344, 2709, 5440, 10901, 21824, 43669, 87360].getD js.toNat 0) ∧
    (∀ (jb : BitVec 4) (js : BitVec 3) (s : Nat), s < ringCapacity js → regionBase jb + 1024 ≤ slotAddr (regionBase jb) s ∧
      slotAddr (regionBase jb) s + 48 ≤ regionBase jb + regionSize js ∧ regionBase jb + regionSize js ≤ 67108864) ∧
    (∀ (jb : BitVec 4) (s : Nat) (bytes : List Byte),
      let at' := fun o : Nat => BitVec.ofNat 26 (4194304 * jb.toNat + 1024 + 48 * s + o)
      let part := fun o n : Nat => (bytes.drop o).take n
      (s % 2 = 0 →
        recordWrites (regionBase jb) s bytes =
          [.granuleWrite (at' 0) (part 0 32), .wordWrite (at' 32) (part 32 4) 0xF, .wordWrite (at' 36) (part 36 4) 0xF,
            .wordWrite (at' 40) (part 40 4) 0xF, .wordWrite (at' 44) (part 44 4) 0xF] ∧
        recordReads (regionBase jb) s =
          [.granuleRead (at' 0), .wordRead (at' 32), .wordRead (at' 36), .wordRead (at' 40), .wordRead (at' 44)]) ∧
      (s % 2 = 1 →
        recordWrites (regionBase jb) s bytes =
          [.wordWrite (at' 0) (part 0 4) 0xF, .wordWrite (at' 4) (part 4 4) 0xF, .wordWrite (at' 8) (part 8 4) 0xF,
            .wordWrite (at' 12) (part 12 4) 0xF, .granuleWrite (at' 16) (part 16 32)] ∧
        recordReads (regionBase jb) s =
          [.wordRead (at' 0), .wordRead (at' 4), .wordRead (at' 8), .wordRead (at' 12), .granuleRead (at' 16)])) ∧
    ∀ (jb : BitVec 4) (s : Nat) (bytes : List Byte), bytes.length = 48 →
      ((recordWrites (regionBase jb) s bytes).flatMap fun r =>
        match r with
        | .wordWrite _ d _ => d
        | .granuleWrite _ d => d
        | .wordRead _ => []
        | .granuleRead _ => []) = bytes ∧
      (recordWrites (regionBase jb) s bytes).length = 5 ∧
      ∀ r ∈ recordWrites (regionBase jb) s bytes ++ recordReads (regionBase jb) s, r.aligned = r ∧ r.emptyMask = false

/-- R49, R50, R187, R189: a record written to a slot and read back from it, with a sequence expected that has its high bits, is
the record written. R97, R98, R188, R189: an anchor written to a slot and read back from it under the straps it records is valid
there and is the anchor written. R177, R190: the bytes firmware sends for a link command spell that command again, and their number is
its argument count. R189: every check code is the CRC-32 of generator 0x04C11DB7, taken bit by bit from the least significant bit of
each byte, from the initial value 0xFFFFFFFF and with the final exclusive-or 0xFFFFFFFF. -/
def Obligations.RecordsAnchorsAndFramesReadBack : Prop :=
  (∀ bytes : List Byte, crc32 bytes = bytes.foldl (fun (c : Word) (b : Byte) =>
      (List.range 8).foldl (fun (c : Word) _ => if c.getLsbD 0 then (c >>> 1) ^^^ (0x04C11DB7 : Word).reverse else c >>> 1)
        (c ^^^ b.setWidth 32)) 0xFFFFFFFF ^^^ 0xFFFFFFFF) ∧
  (∀ (slot : Nat) (r : Record) (q : Word), r.seq.toNat / 16777216 = q.toNat / 16777216 →
    (match r.body with
      | .preImage g payload => g < 2097152 ∧ payload.length = 32
      | .commit i => i.preImages < 4294967296) →
    decodeRecord slot q (r.encode slot) = some r) ∧
  (∀ (t : AnchorSlot) (jb : BitVec 4) (js : BitVec 3) (a : Anchor), a.jbase = jb.setWidth 8 → a.jsize = js.setWidth 8 →
    a.format ≠ 0 → a.table.length = 8 → (∀ w ∈ a.table, ∀ x, w = some x → x.base < 4294967296 ∧ 0 < x.length ∧
      x.length < 2147483648) → a.directory.length ≤ 15 →
    (∀ d ∈ a.directory, d.firstSlot < 16777216 ∧ d.slots < 16777216 ∧ d.preImages = d.slots - 1) →
    a.openFirstSlot < 4294967296 → a.tail < 4294967296 → a.occupancy < 4294967296 → a.intent ≠ some 0 →
    validAnchor t jb js (a.encode t) = some a) ∧
  ∀ (i : Instr) (code : Byte) (args : List Byte), i.wellFormed = true → frameBytes i = some (code, args) →
    frameCommand code args = i ∧ ∀ shape, commandShape code = some shape → args.length = shape.1

/-! ### Laws that every step keeps -/

/-- R52, R55, R104: every step keeps the law of the ring and the directory, with memory answering what a 2410 wrote (log 18):
occupancy counts the slots of the entries listed and of the open epoch, never exceeds capacity and leaves one slot free while an
epoch is open, and the directory lists rising epoch numbers below the open one. The law says so in plain words: in every lawful
state occupancy is at most capacity; in OPEN, UNGUARDED, COMMITTING, ROLLING_BACK and DISCARDING a slot is free; the entries rise;
and in OPEN, UNGUARDED and DISCARDING every entry is below the open epoch and occupancy is the sum. -/
def Obligations.StepKeepsTheRing : Prop :=
  (∀ s t : State, s.portDisciplined = true → s.ringLawful = true →
    (∀ data rest, s.pending = .memoryResponse (.okay data) :: rest → s.readsGenuine data = true) →
    step s = .next t → t.ringLawful = true) ∧
  ∀ s : State, s.ringLawful = true → s.jc.occupancy ≤ s.capacity ∧
    (s.name = .opened ∨ s.name = .unguarded ∨ s.name = .committing ∨ s.name = .rollingBack ∨ s.name = .discarding →
      1 ≤ s.free) ∧
    s.jc.directory.Pairwise (fun x y => x.number < y.number) ∧
    ∀ e, s.jc.epoch = some e → (s.name = .opened ∨ s.name = .unguarded ∨ s.name = .discarding) →
      (∀ d ∈ s.jc.directory, d.number < e.number) ∧
        s.jc.occupancy = (s.jc.directory.map DirEntry.slots).sum + e.preImages

/-- R21: every step keeps the staged-differs flag true to the two tables. R2, R37, R104, R162: every step keeps the queue at
most 4 requests, the directory at most 15 entries, the tag store in its canonical form and the run counts at most 15. R17, R79:
every step keeps the auto-commit timer and the hold timer where they can stand. R32, R36, R132, R171, R172, R174, R178: every step
keeps the open generation true to its epoch, a report's end whole, the frame decoder IDLE with CS_N high, and the part quiet in reset:
stamp 0, ANCHOR_READ, READY and EVT_N deasserted. -/
def Obligations.StepKeepsTheLaws : Prop :=
  (∀ s t : State, s.flagExact = true → step s = .next t → t.flagExact = true) ∧
  (∀ s t : State, step s = .next t →
    (s.queueBounded = true → t.queueBounded = true) ∧ (s.directoryBounded = true → t.directoryBounded = true) ∧
      (s.tags.store.wf = true → t.tags.store.wf = true) ∧ (s.qualifiersBounded = true → t.qualifiersBounded = true)) ∧
  (∀ s t : State, step s = .next t →
    (s.timerPlaced = true → t.timerPlaced = true) ∧ (s.holdPlaced = true → t.holdPlaced = true)) ∧
  (∀ s t : State, step s = .next t →
    (s.generationExact = true → t.generationExact = true) ∧ (s.reportWhole = true → t.reportWhole = true) ∧
      (s.frameIdle = true → t.frameIdle = true) ∧ (s.quietReset = true → t.quietReset = true))

/-- R3, R63, R155, R156, R158: every step keeps the memory port's discipline: one transaction in flight, at most one outstanding
for each claimant, none waiting at a free port, and one of the request path exactly while a head is in progress. -/
def Obligations.StepKeepsThePortDiscipline : Prop :=
  ∀ s t : State, s.portDisciplined = true → step s = .next t → t.portDisciplined = true

/-- R3, R13, R117, R158, R170: outside reset every step from a settled state leaves a settled state: no step is left undone, no
claim unraised, no waiting claim ungranted; and a power-up settles the part. -/
def Obligations.StepKeepsThePartSettled : Prop :=
  (∀ s t : State, (s.inReset = true ∨ s.settled = true) → step s = .next t → (t.inReset = true ∨ t.settled = true)) ∧
    ∀ (jb : BitVec 4) (js : BitVec 3) (prst pfw cs : Bool) (raised : BitVec 12) (s t : State),
      exec (.powerUp { jbase := jb, jsize := js } prst pfw cs raised) s = .next t → (t.inReset = true ∨ t.settled = true)

/-- The state right after reset obeys the laws of StepKeepsTheRing, StepKeepsTheLaws and StepKeepsThePortDiscipline. (It is not
settled: its anchor read has not begun, log 8.) -/
def Obligations.ResetObeysTheLaws : Prop :=
  State.reset.flagExact = true ∧ State.reset.queueBounded = true ∧ State.reset.directoryBounded = true ∧
    State.reset.tags.store.wf = true ∧ State.reset.qualifiersBounded = true ∧ State.reset.timerPlaced = true ∧
    State.reset.holdPlaced = true ∧ State.reset.generationExact = true ∧ State.reset.reportWhole = true ∧
    State.reset.frameIdle = true ∧ State.reset.quietReset = true ∧ State.reset.portDisciplined = true ∧
    State.reset.ringLawful = true
end

