-- ==== Sys2Proof/Laws/Bytes.lean ====
section
/-! SUPPORT. The byte order of R186: how many bytes a field has, and that reading a field back gives the number stored; the CRC of
R189 as a fold. -/

namespace Sys2Proof

@[simp] theorem leBytes_length (n x : Nat) : (leBytes n x).length = n := by
  induction n generalizing x with
  | zero => rfl
  | succ n ih => simp [leBytes, ih]

/-- Reading back what `leBytes` stores gives the number modulo the field's width. -/
theorem leNat_leBytes (n x : Nat) : leNat (leBytes n x) = x % 256 ^ n := by
  induction n generalizing x with
  | zero => simp [leBytes, leNat, Nat.mod_one]
  | succ n ih =>
    simp only [leBytes, leNat, ih, BitVec.toNat_ofNat]
    have h := Nat.mod_mul (x := x) (a := 256) (b := 256 ^ n)
    rw [← pow_succ'] at h
    exact h.symm

theorem leWord_leBytes (w : Word) : leWord (leBytes 4 w.toNat) = w := by
  have h := w.isLt
  apply BitVec.eq_of_toNat_eq
  simp only [leWord, leNat_leBytes, BitVec.toNat_ofNat]
  norm_num
  omega

theorem leHalf_leBytes (v : Half) : leHalf (leBytes 2 v.toNat) = v := by
  have h := v.isLt
  apply BitVec.eq_of_toNat_eq
  simp only [leHalf, leNat_leBytes, BitVec.toNat_ofNat]
  norm_num
  omega

/-- A field that ends where the next begins is read back whole. -/
theorem fieldAt_append_right (o n : Nat) (xs ys : List Byte) (h : xs.length ≤ o) :
    fieldAt o n (xs ++ ys) = fieldAt (o - xs.length) n ys := by
  simp [fieldAt, List.drop_append, List.drop_eq_nil_of_le h]

theorem fieldAt_append_left (o n : Nat) (xs ys : List Byte) (h : o + n ≤ xs.length) :
    fieldAt o n (xs ++ ys) = fieldAt o n xs := by
  unfold fieldAt
  rw [List.drop_append_of_le_length (by omega), List.take_append_of_le_length (by simp; omega)]

theorem fieldAt_whole (n : Nat) (xs : List Byte) (h : xs.length = n) : fieldAt 0 n xs = xs := by
  simp [fieldAt, ← h]

/-- R189: the CRC of a string is the fold of its bytes. -/
theorem Machine.crcFrom_eq_foldl (bytes : List Byte) (c : Word) : Machine.crcFrom c bytes = bytes.foldl Machine.crcByte c := by
  induction bytes generalizing c with
  | nil => rfl
  | cons b bs ih =>
    unfold Machine.crcFrom
    rw [List.foldl_cons, ← ih]
    split
    · rename_i h
      rw [show Machine.crcByte c b = 0 from BitVec.eq_of_toNat_eq h]
    · rename_i n h
      rw [show n + 1 = (Machine.crcByte c b).toNat from h.symm, BitVec.ofNat_toNat, BitVec.setWidth_eq]

end Sys2Proof
end

