-- ==== Sys2Proof/Laws/Layout.lean ====
section
/-! SUPPORT. The check code that passes nowhere (R189), the images that FORMAT writes to be found invalid (R46, R98, R110), and what
makes a record valid at a slot (R50). -/

namespace Sys2Proof.Machine

/-- R189: the code stored is the smallest of 0, 1 and 2 that is neither of the two that would pass. -/
theorem invalidCheck_smallest (a b : Word) :
    invalidCheck a b ≤ 2 ∧ invalidCheck a b ≠ a ∧ invalidCheck a b ≠ b ∧ ∀ k < invalidCheck a b, k = a ∨ k = b := by
  by_cases h0 : (0 : Word) ≠ a ∧ (0 : Word) ≠ b
  · rw [show invalidCheck a b = 0 by rw [invalidCheck, if_pos h0]]
    exact ⟨by decide, h0.1, h0.2, fun k hk => absurd hk (by simp)⟩
  · have e0 : (0 : Word) = a ∨ (0 : Word) = b := by
      by_contra h
      exact h0 ⟨fun e => h (Or.inl e), fun e => h (Or.inr e)⟩
    by_cases h1 : (1 : Word) ≠ a ∧ (1 : Word) ≠ b
    · rw [show invalidCheck a b = 1 by rw [invalidCheck, if_neg h0, if_pos h1]]
      refine ⟨by decide, h1.1, h1.2, fun k hk => ?_⟩
      have : k = 0 := by bv_omega
      rw [this]
      exact e0
    · have e1 : (1 : Word) = a ∨ (1 : Word) = b := by
        by_contra h
        exact h1 ⟨fun e => h (Or.inl e), fun e => h (Or.inr e)⟩
      rw [show invalidCheck a b = 2 by rw [invalidCheck, if_neg h0, if_neg h1]]
      refine ⟨by decide, ?_, ?_, fun k hk => ?_⟩
      · rintro rfl
        rcases e0 with e | rfl
        · exact absurd e (by decide)
        · rcases e1 with e | e <;> exact absurd e (by decide)
      · rintro rfl
        rcases e0 with rfl | e
        · rcases e1 with e | e <;> exact absurd e (by decide)
        · exact absurd e (by decide)
      · have : k = 0 ∨ k = 1 := by bv_omega
        rcases this with rfl | rfl
        · exact e0
        · exact e1

/-- R110: the invalidation image's zeros and its check code, apart from how the zeros are written. -/
theorem invalidationImage_eq : ∃ zeros : List Byte, zeros = List.replicate 508 0 ∧ zeros.length = 508 ∧
    invalidationImage = zeros ++ leBytes 4 (invalidCheck (anchorCheck zeros .slot0) (anchorCheck zeros .slot1)).toNat :=
  ⟨_, rfl, List.length_replicate, rfl⟩

/-- R50: a record that is valid at a slot is the one its bytes say, with the format number and sequence expected and an epoch of the
range. -/
theorem validRecord_some {slot : Nat} {f : Half} {q lo hi : Word} {bytes : List Byte} {r : Record}
    (h : validRecord slot f q lo hi bytes = some r) :
    decodeRecord slot q bytes = some r ∧ r.format = f ∧ r.seq = q ∧ lo ≤ r.epoch ∧ r.epoch ≤ hi := by
  unfold validRecord at h
  split at h
  · contradiction
  · rename_i x hx
    split at h
    · rename_i hc
      cases h
      exact ⟨hx, hc⟩
    · contradiction

/-- R189: the sequence read is the one expected exactly when the 24 bits stored are its own. -/
theorem sequenceRead_eq_iff (q : Word) (bytes : List Byte) (h : leNat (fieldAt 3 3 bytes) < 16777216) :
    sequenceRead q bytes = q ↔ leNat (fieldAt 3 3 bytes) = q.toNat % 16777216 := by
  have hq := q.isLt
  unfold sequenceRead
  constructor
  · intro e
    have := congrArg BitVec.toNat e
    rw [BitVec.toNat_ofNat] at this
    omega
  · intro e
    apply BitVec.eq_of_toNat_eq
    rw [BitVec.toNat_ofNat]
    omega

end Sys2Proof.Machine
end

