-- ==== Sys2Proof/Laws/State.lean ====
section
/-! SUPPORT. What each shared operation leaves as it was, field by field: one lemma for each field of `State` that an operation does
not write, so that no later proof unfolds a record update. -/

namespace Sys2Proof.Machine

variable (s : State)

@[simp] theorem raise_pending (e : Event) : (s.raise e).pending = s.pending := rfl
@[simp] theorem raise_jbase (e : Event) : (s.raise e).jbase = s.jbase := rfl
@[simp] theorem raise_jsize (e : Event) : (s.raise e).jsize = s.jsize := rfl
@[simp] theorem raise_inReset (e : Event) : (s.raise e).inReset = s.inReset := rfl
@[simp] theorem raise_front (e : Event) : (s.raise e).front = s.front := rfl
@[simp] theorem raise_windows (e : Event) : (s.raise e).windows = s.windows := rfl
@[simp] theorem raise_tags (e : Event) : (s.raise e).tags = s.tags := rfl
@[simp] theorem raise_save (e : Event) : (s.raise e).save = s.save := rfl
@[simp] theorem raise_jc (e : Event) : (s.raise e).jc = s.jc := rfl
@[simp] theorem raise_anchor (e : Event) : (s.raise e).anchor = s.anchor := rfl
@[simp] theorem raise_port (e : Event) : (s.raise e).port = s.port := rfl
@[simp] theorem raise_lines (e : Event) : (s.raise e).lines = s.lines := rfl
@[simp] theorem raise_stamp (e : Event) : (s.raise e).stamp = s.stamp := rfl
@[simp] theorem raise_link (e : Event) : (s.raise e).link = s.link := rfl
@[simp] theorem raise_freeIndex (e : Event) : (s.raise e).freeIndex = s.freeIndex := rfl

@[simp] theorem raiseAll_pending (fs : BitVec 12) : (s.raiseAll fs).pending = s.pending := rfl
@[simp] theorem raiseAll_jbase (fs : BitVec 12) : (s.raiseAll fs).jbase = s.jbase := rfl
@[simp] theorem raiseAll_jsize (fs : BitVec 12) : (s.raiseAll fs).jsize = s.jsize := rfl
@[simp] theorem raiseAll_inReset (fs : BitVec 12) : (s.raiseAll fs).inReset = s.inReset := rfl
@[simp] theorem raiseAll_front (fs : BitVec 12) : (s.raiseAll fs).front = s.front := rfl
@[simp] theorem raiseAll_windows (fs : BitVec 12) : (s.raiseAll fs).windows = s.windows := rfl
@[simp] theorem raiseAll_tags (fs : BitVec 12) : (s.raiseAll fs).tags = s.tags := rfl
@[simp] theorem raiseAll_save (fs : BitVec 12) : (s.raiseAll fs).save = s.save := rfl
@[simp] theorem raiseAll_jc (fs : BitVec 12) : (s.raiseAll fs).jc = s.jc := rfl
@[simp] theorem raiseAll_anchor (fs : BitVec 12) : (s.raiseAll fs).anchor = s.anchor := rfl
@[simp] theorem raiseAll_port (fs : BitVec 12) : (s.raiseAll fs).port = s.port := rfl
@[simp] theorem raiseAll_lines (fs : BitVec 12) : (s.raiseAll fs).lines = s.lines := rfl
@[simp] theorem raiseAll_stamp (fs : BitVec 12) : (s.raiseAll fs).stamp = s.stamp := rfl
@[simp] theorem raiseAll_link (fs : BitVec 12) : (s.raiseAll fs).link = s.link := rfl
@[simp] theorem raiseAll_freeIndex (fs : BitVec 12) : (s.raiseAll fs).freeIndex = s.freeIndex := rfl

@[simp] theorem claimFirst_pending (t : Request) (p : FrontPhase) (v : Save) : (s.claimFirst t p v).pending = s.pending := rfl
@[simp] theorem claimFirst_jbase (t : Request) (p : FrontPhase) (v : Save) : (s.claimFirst t p v).jbase = s.jbase := rfl
@[simp] theorem claimFirst_jsize (t : Request) (p : FrontPhase) (v : Save) : (s.claimFirst t p v).jsize = s.jsize := rfl
@[simp] theorem claimFirst_inReset (t : Request) (p : FrontPhase) (v : Save) : (s.claimFirst t p v).inReset = s.inReset := rfl
@[simp] theorem claimFirst_windows (t : Request) (p : FrontPhase) (v : Save) : (s.claimFirst t p v).windows = s.windows := rfl
@[simp] theorem claimFirst_tags (t : Request) (p : FrontPhase) (v : Save) : (s.claimFirst t p v).tags = s.tags := rfl
@[simp] theorem claimFirst_jc (t : Request) (p : FrontPhase) (v : Save) : (s.claimFirst t p v).jc = s.jc := rfl
@[simp] theorem claimFirst_anchor (t : Request) (p : FrontPhase) (v : Save) : (s.claimFirst t p v).anchor = s.anchor := rfl
@[simp] theorem claimFirst_lines (t : Request) (p : FrontPhase) (v : Save) : (s.claimFirst t p v).lines = s.lines := rfl
@[simp] theorem claimFirst_stamp (t : Request) (p : FrontPhase) (v : Save) : (s.claimFirst t p v).stamp = s.stamp := rfl
@[simp] theorem claimFirst_events (t : Request) (p : FrontPhase) (v : Save) : (s.claimFirst t p v).events = s.events := rfl
@[simp] theorem claimFirst_link (t : Request) (p : FrontPhase) (v : Save) : (s.claimFirst t p v).link = s.link := rfl
@[simp] theorem claimFirst_freeIndex (t : Request) (p : FrontPhase) (v : Save) : (s.claimFirst t p v).freeIndex = s.freeIndex := rfl

@[simp] theorem beginWait_pending (r : HoldReason) : (s.beginWait r).pending = s.pending := rfl
@[simp] theorem beginWait_jbase (r : HoldReason) : (s.beginWait r).jbase = s.jbase := rfl
@[simp] theorem beginWait_jsize (r : HoldReason) : (s.beginWait r).jsize = s.jsize := rfl
@[simp] theorem beginWait_inReset (r : HoldReason) : (s.beginWait r).inReset = s.inReset := rfl
@[simp] theorem beginWait_windows (r : HoldReason) : (s.beginWait r).windows = s.windows := rfl
@[simp] theorem beginWait_tags (r : HoldReason) : (s.beginWait r).tags = s.tags := rfl
@[simp] theorem beginWait_save (r : HoldReason) : (s.beginWait r).save = s.save := rfl
@[simp] theorem beginWait_jc (r : HoldReason) : (s.beginWait r).jc = s.jc := rfl
@[simp] theorem beginWait_anchor (r : HoldReason) : (s.beginWait r).anchor = s.anchor := rfl
@[simp] theorem beginWait_port (r : HoldReason) : (s.beginWait r).port = s.port := rfl
@[simp] theorem beginWait_lines (r : HoldReason) : (s.beginWait r).lines = s.lines := rfl
@[simp] theorem beginWait_stamp (r : HoldReason) : (s.beginWait r).stamp = s.stamp := rfl
@[simp] theorem beginWait_events (r : HoldReason) : (s.beginWait r).events = s.events := rfl
@[simp] theorem beginWait_link (r : HoldReason) : (s.beginWait r).link = s.link := rfl
@[simp] theorem beginWait_freeIndex (r : HoldReason) : (s.beginWait r).freeIndex = s.freeIndex := rfl

@[simp] theorem enterRoom_pending (g t : Nat) : (s.enterRoom g t).pending = s.pending := rfl
@[simp] theorem enterRoom_jbase (g t : Nat) : (s.enterRoom g t).jbase = s.jbase := rfl
@[simp] theorem enterRoom_jsize (g t : Nat) : (s.enterRoom g t).jsize = s.jsize := rfl
@[simp] theorem enterRoom_inReset (g t : Nat) : (s.enterRoom g t).inReset = s.inReset := rfl
@[simp] theorem enterRoom_windows (g t : Nat) : (s.enterRoom g t).windows = s.windows := rfl
@[simp] theorem enterRoom_tags (g t : Nat) : (s.enterRoom g t).tags = s.tags := rfl
@[simp] theorem enterRoom_jc (g t : Nat) : (s.enterRoom g t).jc = s.jc := rfl
@[simp] theorem enterRoom_anchor (g t : Nat) : (s.enterRoom g t).anchor = s.anchor := rfl
@[simp] theorem enterRoom_port (g t : Nat) : (s.enterRoom g t).port = s.port := rfl
@[simp] theorem enterRoom_lines (g t : Nat) : (s.enterRoom g t).lines = s.lines := rfl
@[simp] theorem enterRoom_stamp (g t : Nat) : (s.enterRoom g t).stamp = s.stamp := rfl
@[simp] theorem enterRoom_events (g t : Nat) : (s.enterRoom g t).events = s.events := rfl
@[simp] theorem enterRoom_link (g t : Nat) : (s.enterRoom g t).link = s.link := rfl
@[simp] theorem enterRoom_freeIndex (g t : Nat) : (s.enterRoom g t).freeIndex = s.freeIndex := rfl
@[simp] theorem enterRoom_save (g t : Nat) : (s.enterRoom g t).save = .room g t := rfl
@[simp] theorem enterRoom_front (g t : Nat) : (s.enterRoom g t).front = (s.beginWait .room).front := rfl

@[simp] theorem unmark_pending : (s.unmark).pending = s.pending := rfl
@[simp] theorem unmark_jbase : (s.unmark).jbase = s.jbase := rfl
@[simp] theorem unmark_jsize : (s.unmark).jsize = s.jsize := rfl
@[simp] theorem unmark_inReset : (s.unmark).inReset = s.inReset := rfl
@[simp] theorem unmark_windows : (s.unmark).windows = s.windows := rfl
@[simp] theorem unmark_tags : (s.unmark).tags = s.tags := rfl
@[simp] theorem unmark_save : (s.unmark).save = s.save := rfl
@[simp] theorem unmark_jc : (s.unmark).jc = s.jc := rfl
@[simp] theorem unmark_anchor : (s.unmark).anchor = s.anchor := rfl
@[simp] theorem unmark_port : (s.unmark).port = s.port := rfl
@[simp] theorem unmark_lines : (s.unmark).lines = s.lines := rfl
@[simp] theorem unmark_stamp : (s.unmark).stamp = s.stamp := rfl
@[simp] theorem unmark_events : (s.unmark).events = s.events := rfl
@[simp] theorem unmark_link : (s.unmark).link = s.link := rfl
@[simp] theorem unmark_freeIndex : (s.unmark).freeIndex = s.freeIndex := rfl

@[simp] theorem countWrite_pending : (s.countWrite).pending = s.pending := rfl
@[simp] theorem countWrite_jbase : (s.countWrite).jbase = s.jbase := rfl
@[simp] theorem countWrite_jsize : (s.countWrite).jsize = s.jsize := rfl
@[simp] theorem countWrite_inReset : (s.countWrite).inReset = s.inReset := rfl
@[simp] theorem countWrite_front : (s.countWrite).front = s.front := rfl
@[simp] theorem countWrite_windows : (s.countWrite).windows = s.windows := rfl
@[simp] theorem countWrite_tags : (s.countWrite).tags = s.tags := rfl
@[simp] theorem countWrite_save : (s.countWrite).save = s.save := rfl
@[simp] theorem countWrite_anchor : (s.countWrite).anchor = s.anchor := rfl
@[simp] theorem countWrite_port : (s.countWrite).port = s.port := rfl
@[simp] theorem countWrite_lines : (s.countWrite).lines = s.lines := rfl
@[simp] theorem countWrite_stamp : (s.countWrite).stamp = s.stamp := rfl
@[simp] theorem countWrite_events : (s.countWrite).events = s.events := rfl
@[simp] theorem countWrite_link : (s.countWrite).link = s.link := rfl
@[simp] theorem countWrite_freeIndex : (s.countWrite).freeIndex = s.freeIndex := rfl

@[simp] theorem recordAdded_pending : (s.recordAdded).pending = s.pending := rfl
@[simp] theorem recordAdded_jbase : (s.recordAdded).jbase = s.jbase := rfl
@[simp] theorem recordAdded_jsize : (s.recordAdded).jsize = s.jsize := rfl
@[simp] theorem recordAdded_inReset : (s.recordAdded).inReset = s.inReset := rfl
@[simp] theorem recordAdded_front : (s.recordAdded).front = s.front := rfl
@[simp] theorem recordAdded_windows : (s.recordAdded).windows = s.windows := rfl
@[simp] theorem recordAdded_tags : (s.recordAdded).tags = s.tags := rfl
@[simp] theorem recordAdded_save : (s.recordAdded).save = s.save := rfl
@[simp] theorem recordAdded_anchor : (s.recordAdded).anchor = s.anchor := rfl
@[simp] theorem recordAdded_port : (s.recordAdded).port = s.port := rfl
@[simp] theorem recordAdded_lines : (s.recordAdded).lines = s.lines := rfl
@[simp] theorem recordAdded_stamp : (s.recordAdded).stamp = s.stamp := rfl
@[simp] theorem recordAdded_events : (s.recordAdded).events = s.events := rfl
@[simp] theorem recordAdded_link : (s.recordAdded).link = s.link := rfl
@[simp] theorem recordAdded_freeIndex : (s.recordAdded).freeIndex = s.freeIndex := rfl

@[simp] theorem emptyRing_pending : (s.emptyRing).pending = s.pending := rfl
@[simp] theorem emptyRing_jbase : (s.emptyRing).jbase = s.jbase := rfl
@[simp] theorem emptyRing_jsize : (s.emptyRing).jsize = s.jsize := rfl
@[simp] theorem emptyRing_inReset : (s.emptyRing).inReset = s.inReset := rfl
@[simp] theorem emptyRing_front : (s.emptyRing).front = s.front := rfl
@[simp] theorem emptyRing_windows : (s.emptyRing).windows = s.windows := rfl
@[simp] theorem emptyRing_tags : (s.emptyRing).tags = s.tags := rfl
@[simp] theorem emptyRing_save : (s.emptyRing).save = s.save := rfl
@[simp] theorem emptyRing_anchor : (s.emptyRing).anchor = s.anchor := rfl
@[simp] theorem emptyRing_port : (s.emptyRing).port = s.port := rfl
@[simp] theorem emptyRing_lines : (s.emptyRing).lines = s.lines := rfl
@[simp] theorem emptyRing_stamp : (s.emptyRing).stamp = s.stamp := rfl
@[simp] theorem emptyRing_events : (s.emptyRing).events = s.events := rfl
@[simp] theorem emptyRing_link : (s.emptyRing).link = s.link := rfl
@[simp] theorem emptyRing_freeIndex : (s.emptyRing).freeIndex = s.freeIndex := rfl

@[simp] theorem openEpoch_pending (m : Word) (b : Bool) : (s.openEpoch m b).pending = s.pending := rfl
@[simp] theorem openEpoch_jbase (m : Word) (b : Bool) : (s.openEpoch m b).jbase = s.jbase := rfl
@[simp] theorem openEpoch_jsize (m : Word) (b : Bool) : (s.openEpoch m b).jsize = s.jsize := rfl
@[simp] theorem openEpoch_inReset (m : Word) (b : Bool) : (s.openEpoch m b).inReset = s.inReset := rfl
@[simp] theorem openEpoch_front (m : Word) (b : Bool) : (s.openEpoch m b).front = s.front := rfl
@[simp] theorem openEpoch_windows (m : Word) (b : Bool) : (s.openEpoch m b).windows = s.windows := rfl
@[simp] theorem openEpoch_tags (m : Word) (b : Bool) : (s.openEpoch m b).tags = s.tags := rfl
@[simp] theorem openEpoch_save (m : Word) (b : Bool) : (s.openEpoch m b).save = s.save := rfl
@[simp] theorem openEpoch_anchor (m : Word) (b : Bool) : (s.openEpoch m b).anchor = s.anchor := rfl
@[simp] theorem openEpoch_port (m : Word) (b : Bool) : (s.openEpoch m b).port = s.port := rfl
@[simp] theorem openEpoch_lines (m : Word) (b : Bool) : (s.openEpoch m b).lines = s.lines := rfl
@[simp] theorem openEpoch_stamp (m : Word) (b : Bool) : (s.openEpoch m b).stamp = s.stamp := rfl
@[simp] theorem openEpoch_events (m : Word) (b : Bool) : (s.openEpoch m b).events = s.events := rfl
@[simp] theorem openEpoch_link (m : Word) (b : Bool) : (s.openEpoch m b).link = s.link := rfl
@[simp] theorem openEpoch_freeIndex (m : Word) (b : Bool) : (s.openEpoch m b).freeIndex = s.freeIndex := rfl

@[simp] theorem startRetire_pending (m : Word) : (s.startRetire m).pending = s.pending := rfl
@[simp] theorem startRetire_jbase (m : Word) : (s.startRetire m).jbase = s.jbase := rfl
@[simp] theorem startRetire_jsize (m : Word) : (s.startRetire m).jsize = s.jsize := rfl
@[simp] theorem startRetire_inReset (m : Word) : (s.startRetire m).inReset = s.inReset := rfl
@[simp] theorem startRetire_front (m : Word) : (s.startRetire m).front = s.front := rfl
@[simp] theorem startRetire_windows (m : Word) : (s.startRetire m).windows = s.windows := rfl
@[simp] theorem startRetire_save (m : Word) : (s.startRetire m).save = s.save := rfl
@[simp] theorem startRetire_jc (m : Word) : (s.startRetire m).jc = s.jc := rfl
@[simp] theorem startRetire_anchor (m : Word) : (s.startRetire m).anchor = s.anchor := rfl
@[simp] theorem startRetire_port (m : Word) : (s.startRetire m).port = s.port := rfl
@[simp] theorem startRetire_lines (m : Word) : (s.startRetire m).lines = s.lines := rfl
@[simp] theorem startRetire_stamp (m : Word) : (s.startRetire m).stamp = s.stamp := rfl
@[simp] theorem startRetire_events (m : Word) : (s.startRetire m).events = s.events := rfl
@[simp] theorem startRetire_link (m : Word) : (s.startRetire m).link = s.link := rfl
@[simp] theorem startRetire_freeIndex (m : Word) : (s.startRetire m).freeIndex = s.freeIndex := rfl

@[simp] theorem startClear_pending : (s.startClear).pending = s.pending := rfl
@[simp] theorem startClear_jbase : (s.startClear).jbase = s.jbase := rfl
@[simp] theorem startClear_jsize : (s.startClear).jsize = s.jsize := rfl
@[simp] theorem startClear_inReset : (s.startClear).inReset = s.inReset := rfl
@[simp] theorem startClear_front : (s.startClear).front = s.front := rfl
@[simp] theorem startClear_windows : (s.startClear).windows = s.windows := rfl
@[simp] theorem startClear_save : (s.startClear).save = s.save := rfl
@[simp] theorem startClear_jc : (s.startClear).jc = s.jc := rfl
@[simp] theorem startClear_anchor : (s.startClear).anchor = s.anchor := rfl
@[simp] theorem startClear_port : (s.startClear).port = s.port := rfl
@[simp] theorem startClear_lines : (s.startClear).lines = s.lines := rfl
@[simp] theorem startClear_stamp : (s.startClear).stamp = s.stamp := rfl
@[simp] theorem startClear_events : (s.startClear).events = s.events := rfl
@[simp] theorem startClear_link : (s.startClear).link = s.link := rfl
@[simp] theorem startClear_freeIndex : (s.startClear).freeIndex = s.freeIndex := rfl

@[simp] theorem startTimer_pending : (s.startTimer).pending = s.pending := rfl
@[simp] theorem startTimer_jbase : (s.startTimer).jbase = s.jbase := rfl
@[simp] theorem startTimer_jsize : (s.startTimer).jsize = s.jsize := rfl
@[simp] theorem startTimer_inReset : (s.startTimer).inReset = s.inReset := rfl
@[simp] theorem startTimer_front : (s.startTimer).front = s.front := rfl
@[simp] theorem startTimer_windows : (s.startTimer).windows = s.windows := rfl
@[simp] theorem startTimer_tags : (s.startTimer).tags = s.tags := rfl
@[simp] theorem startTimer_save : (s.startTimer).save = s.save := rfl
@[simp] theorem startTimer_anchor : (s.startTimer).anchor = s.anchor := rfl
@[simp] theorem startTimer_port : (s.startTimer).port = s.port := rfl
@[simp] theorem startTimer_lines : (s.startTimer).lines = s.lines := rfl
@[simp] theorem startTimer_stamp : (s.startTimer).stamp = s.stamp := rfl
@[simp] theorem startTimer_events : (s.startTimer).events = s.events := rfl
@[simp] theorem startTimer_link : (s.startTimer).link = s.link := rfl
@[simp] theorem startTimer_freeIndex : (s.startTimer).freeIndex = s.freeIndex := rfl

@[simp] theorem startUpdate_pending (r : Requester) (a : Anchor) : (s.startUpdate r a).pending = s.pending := rfl
@[simp] theorem startUpdate_jbase (r : Requester) (a : Anchor) : (s.startUpdate r a).jbase = s.jbase := rfl
@[simp] theorem startUpdate_jsize (r : Requester) (a : Anchor) : (s.startUpdate r a).jsize = s.jsize := rfl
@[simp] theorem startUpdate_inReset (r : Requester) (a : Anchor) : (s.startUpdate r a).inReset = s.inReset := rfl
@[simp] theorem startUpdate_front (r : Requester) (a : Anchor) : (s.startUpdate r a).front = s.front := rfl
@[simp] theorem startUpdate_windows (r : Requester) (a : Anchor) : (s.startUpdate r a).windows = s.windows := rfl
@[simp] theorem startUpdate_tags (r : Requester) (a : Anchor) : (s.startUpdate r a).tags = s.tags := rfl
@[simp] theorem startUpdate_save (r : Requester) (a : Anchor) : (s.startUpdate r a).save = s.save := rfl
@[simp] theorem startUpdate_port (r : Requester) (a : Anchor) : (s.startUpdate r a).port = s.port := rfl
@[simp] theorem startUpdate_lines (r : Requester) (a : Anchor) : (s.startUpdate r a).lines = s.lines := rfl
@[simp] theorem startUpdate_stamp (r : Requester) (a : Anchor) : (s.startUpdate r a).stamp = s.stamp := rfl
@[simp] theorem startUpdate_events (r : Requester) (a : Anchor) : (s.startUpdate r a).events = s.events := rfl
@[simp] theorem startUpdate_link (r : Requester) (a : Anchor) : (s.startUpdate r a).link = s.link := rfl
@[simp] theorem startUpdate_freeIndex (r : Requester) (a : Anchor) : (s.startUpdate r a).freeIndex = s.freeIndex := rfl

@[simp] theorem startWork_pending (o : Owner) (q : List Request) : (s.startWork o q).pending = s.pending := rfl
@[simp] theorem startWork_jbase (o : Owner) (q : List Request) : (s.startWork o q).jbase = s.jbase := rfl
@[simp] theorem startWork_jsize (o : Owner) (q : List Request) : (s.startWork o q).jsize = s.jsize := rfl
@[simp] theorem startWork_inReset (o : Owner) (q : List Request) : (s.startWork o q).inReset = s.inReset := rfl
@[simp] theorem startWork_front (o : Owner) (q : List Request) : (s.startWork o q).front = s.front := rfl
@[simp] theorem startWork_windows (o : Owner) (q : List Request) : (s.startWork o q).windows = s.windows := rfl
@[simp] theorem startWork_tags (o : Owner) (q : List Request) : (s.startWork o q).tags = s.tags := rfl
@[simp] theorem startWork_save (o : Owner) (q : List Request) : (s.startWork o q).save = s.save := rfl
@[simp] theorem startWork_anchor (o : Owner) (q : List Request) : (s.startWork o q).anchor = s.anchor := rfl
@[simp] theorem startWork_port (o : Owner) (q : List Request) : (s.startWork o q).port = s.port := rfl
@[simp] theorem startWork_lines (o : Owner) (q : List Request) : (s.startWork o q).lines = s.lines := rfl
@[simp] theorem startWork_stamp (o : Owner) (q : List Request) : (s.startWork o q).stamp = s.stamp := rfl
@[simp] theorem startWork_events (o : Owner) (q : List Request) : (s.startWork o q).events = s.events := rfl
@[simp] theorem startWork_link (o : Owner) (q : List Request) : (s.startWork o q).link = s.link := rfl
@[simp] theorem startWork_freeIndex (o : Owner) (q : List Request) : (s.startWork o q).freeIndex = s.freeIndex := rfl

@[simp] theorem beginReport_pending (k : ReportCause) (c : Option Word) (n b : Word) : (s.beginReport k c n b).pending = s.pending := rfl
@[simp] theorem beginReport_jbase (k : ReportCause) (c : Option Word) (n b : Word) : (s.beginReport k c n b).jbase = s.jbase := rfl
@[simp] theorem beginReport_jsize (k : ReportCause) (c : Option Word) (n b : Word) : (s.beginReport k c n b).jsize = s.jsize := rfl
@[simp] theorem beginReport_inReset (k : ReportCause) (c : Option Word) (n b : Word) : (s.beginReport k c n b).inReset = s.inReset := rfl
@[simp] theorem beginReport_front (k : ReportCause) (c : Option Word) (n b : Word) : (s.beginReport k c n b).front = s.front := rfl
@[simp] theorem beginReport_windows (k : ReportCause) (c : Option Word) (n b : Word) : (s.beginReport k c n b).windows = s.windows := rfl
@[simp] theorem beginReport_tags (k : ReportCause) (c : Option Word) (n b : Word) : (s.beginReport k c n b).tags = s.tags := rfl
@[simp] theorem beginReport_save (k : ReportCause) (c : Option Word) (n b : Word) : (s.beginReport k c n b).save = s.save := rfl
@[simp] theorem beginReport_jc (k : ReportCause) (c : Option Word) (n b : Word) : (s.beginReport k c n b).jc = s.jc := rfl
@[simp] theorem beginReport_anchor (k : ReportCause) (c : Option Word) (n b : Word) : (s.beginReport k c n b).anchor = s.anchor := rfl
@[simp] theorem beginReport_port (k : ReportCause) (c : Option Word) (n b : Word) : (s.beginReport k c n b).port = s.port := rfl
@[simp] theorem beginReport_lines (k : ReportCause) (c : Option Word) (n b : Word) : (s.beginReport k c n b).lines = s.lines := rfl
@[simp] theorem beginReport_stamp (k : ReportCause) (c : Option Word) (n b : Word) : (s.beginReport k c n b).stamp = s.stamp := rfl
@[simp] theorem beginReport_link (k : ReportCause) (c : Option Word) (n b : Word) : (s.beginReport k c n b).link = s.link := rfl
@[simp] theorem beginReport_freeIndex (k : ReportCause) (c : Option Word) (n b : Word) : (s.beginReport k c n b).freeIndex = s.freeIndex := rfl

@[simp] theorem endReport_pending (o : ReportOutcome) : (s.endReport o).pending = s.pending := rfl
@[simp] theorem endReport_jbase (o : ReportOutcome) : (s.endReport o).jbase = s.jbase := rfl
@[simp] theorem endReport_jsize (o : ReportOutcome) : (s.endReport o).jsize = s.jsize := rfl
@[simp] theorem endReport_inReset (o : ReportOutcome) : (s.endReport o).inReset = s.inReset := rfl
@[simp] theorem endReport_front (o : ReportOutcome) : (s.endReport o).front = s.front := rfl
@[simp] theorem endReport_windows (o : ReportOutcome) : (s.endReport o).windows = s.windows := rfl
@[simp] theorem endReport_tags (o : ReportOutcome) : (s.endReport o).tags = s.tags := rfl
@[simp] theorem endReport_save (o : ReportOutcome) : (s.endReport o).save = s.save := rfl
@[simp] theorem endReport_jc (o : ReportOutcome) : (s.endReport o).jc = s.jc := rfl
@[simp] theorem endReport_anchor (o : ReportOutcome) : (s.endReport o).anchor = s.anchor := rfl
@[simp] theorem endReport_port (o : ReportOutcome) : (s.endReport o).port = s.port := rfl
@[simp] theorem endReport_lines (o : ReportOutcome) : (s.endReport o).lines = s.lines := rfl
@[simp] theorem endReport_stamp (o : ReportOutcome) : (s.endReport o).stamp = s.stamp := rfl
@[simp] theorem endReport_link (o : ReportOutcome) : (s.endReport o).link = s.link := rfl
@[simp] theorem endReport_freeIndex (o : ReportOutcome) : (s.endReport o).freeIndex = s.freeIndex := rfl

@[simp] theorem enterDamaged_pending (c : Cause) : (s.enterDamaged c).pending = s.pending := rfl
@[simp] theorem enterDamaged_jbase (c : Cause) : (s.enterDamaged c).jbase = s.jbase := rfl
@[simp] theorem enterDamaged_jsize (c : Cause) : (s.enterDamaged c).jsize = s.jsize := rfl
@[simp] theorem enterDamaged_inReset (c : Cause) : (s.enterDamaged c).inReset = s.inReset := rfl
@[simp] theorem enterDamaged_windows (c : Cause) : (s.enterDamaged c).windows = s.windows := rfl
@[simp] theorem enterDamaged_tags (c : Cause) : (s.enterDamaged c).tags = s.tags := rfl
@[simp] theorem enterDamaged_port (c : Cause) : (s.enterDamaged c).port = s.port := rfl
@[simp] theorem enterDamaged_lines (c : Cause) : (s.enterDamaged c).lines = s.lines := rfl
@[simp] theorem enterDamaged_stamp (c : Cause) : (s.enterDamaged c).stamp = s.stamp := rfl
@[simp] theorem enterDamaged_link (c : Cause) : (s.enterDamaged c).link = s.link := rfl
@[simp] theorem enterDamaged_freeIndex (c : Cause) : (s.enterDamaged c).freeIndex = s.freeIndex := rfl

@[simp] theorem applyCopy_pending (c : TableCopy) : (s.applyCopy c).pending = s.pending := rfl
@[simp] theorem applyCopy_jbase (c : TableCopy) : (s.applyCopy c).jbase = s.jbase := rfl
@[simp] theorem applyCopy_jsize (c : TableCopy) : (s.applyCopy c).jsize = s.jsize := rfl
@[simp] theorem applyCopy_inReset (c : TableCopy) : (s.applyCopy c).inReset = s.inReset := rfl
@[simp] theorem applyCopy_front (c : TableCopy) : (s.applyCopy c).front = s.front := rfl
@[simp] theorem applyCopy_tags (c : TableCopy) : (s.applyCopy c).tags = s.tags := rfl
@[simp] theorem applyCopy_save (c : TableCopy) : (s.applyCopy c).save = s.save := rfl
@[simp] theorem applyCopy_anchor (c : TableCopy) : (s.applyCopy c).anchor = s.anchor := rfl
@[simp] theorem applyCopy_port (c : TableCopy) : (s.applyCopy c).port = s.port := rfl
@[simp] theorem applyCopy_lines (c : TableCopy) : (s.applyCopy c).lines = s.lines := rfl
@[simp] theorem applyCopy_stamp (c : TableCopy) : (s.applyCopy c).stamp = s.stamp := rfl
@[simp] theorem applyCopy_events (c : TableCopy) : (s.applyCopy c).events = s.events := rfl
@[simp] theorem applyCopy_link (c : TableCopy) : (s.applyCopy c).link = s.link := rfl
@[simp] theorem applyCopy_freeIndex (c : TableCopy) : (s.applyCopy c).freeIndex = s.freeIndex := rfl

@[simp] theorem takeCommit_pending (b : Bool) : (s.takeCommit b).pending = s.pending := rfl
@[simp] theorem takeCommit_jbase (b : Bool) : (s.takeCommit b).jbase = s.jbase := rfl
@[simp] theorem takeCommit_jsize (b : Bool) : (s.takeCommit b).jsize = s.jsize := rfl
@[simp] theorem takeCommit_inReset (b : Bool) : (s.takeCommit b).inReset = s.inReset := rfl
@[simp] theorem takeCommit_windows (b : Bool) : (s.takeCommit b).windows = s.windows := rfl
@[simp] theorem takeCommit_tags (b : Bool) : (s.takeCommit b).tags = s.tags := rfl
@[simp] theorem takeCommit_save (b : Bool) : (s.takeCommit b).save = s.save := rfl
@[simp] theorem takeCommit_anchor (b : Bool) : (s.takeCommit b).anchor = s.anchor := rfl
@[simp] theorem takeCommit_port (b : Bool) : (s.takeCommit b).port = s.port := rfl
@[simp] theorem takeCommit_lines (b : Bool) : (s.takeCommit b).lines = s.lines := rfl
@[simp] theorem takeCommit_stamp (b : Bool) : (s.takeCommit b).stamp = s.stamp := rfl
@[simp] theorem takeCommit_events (b : Bool) : (s.takeCommit b).events = s.events := rfl
@[simp] theorem takeCommit_link (b : Bool) : (s.takeCommit b).link = s.link := rfl
@[simp] theorem takeCommit_freeIndex (b : Bool) : (s.takeCommit b).freeIndex = s.freeIndex := rfl

@[simp] theorem takeRollback_pending (c : Word) (k : ReportCause) : (s.takeRollback c k).pending = s.pending := rfl
@[simp] theorem takeRollback_jbase (c : Word) (k : ReportCause) : (s.takeRollback c k).jbase = s.jbase := rfl
@[simp] theorem takeRollback_jsize (c : Word) (k : ReportCause) : (s.takeRollback c k).jsize = s.jsize := rfl
@[simp] theorem takeRollback_inReset (c : Word) (k : ReportCause) : (s.takeRollback c k).inReset = s.inReset := rfl
@[simp] theorem takeRollback_windows (c : Word) (k : ReportCause) : (s.takeRollback c k).windows = s.windows := rfl
@[simp] theorem takeRollback_tags (c : Word) (k : ReportCause) : (s.takeRollback c k).tags = s.tags := rfl
@[simp] theorem takeRollback_save (c : Word) (k : ReportCause) : (s.takeRollback c k).save = s.save := rfl
@[simp] theorem takeRollback_anchor (c : Word) (k : ReportCause) : (s.takeRollback c k).anchor = s.anchor := rfl
@[simp] theorem takeRollback_port (c : Word) (k : ReportCause) : (s.takeRollback c k).port = s.port := rfl
@[simp] theorem takeRollback_lines (c : Word) (k : ReportCause) : (s.takeRollback c k).lines = s.lines := rfl
@[simp] theorem takeRollback_stamp (c : Word) (k : ReportCause) : (s.takeRollback c k).stamp = s.stamp := rfl
@[simp] theorem takeRollback_events (c : Word) (k : ReportCause) : (s.takeRollback c k).events = s.events := rfl
@[simp] theorem takeRollback_link (c : Word) (k : ReportCause) : (s.takeRollback c k).link = s.link := rfl
@[simp] theorem takeRollback_freeIndex (c : Word) (k : ReportCause) : (s.takeRollback c k).freeIndex = s.freeIndex := rfl

@[simp] theorem drawn_pending : (s.drawn).pending = s.pending := rfl
@[simp] theorem drawn_jbase : (s.drawn).jbase = s.jbase := rfl
@[simp] theorem drawn_jsize : (s.drawn).jsize = s.jsize := rfl
@[simp] theorem drawn_inReset : (s.drawn).inReset = s.inReset := rfl
@[simp] theorem drawn_front : (s.drawn).front = s.front := rfl
@[simp] theorem drawn_windows : (s.drawn).windows = s.windows := rfl
@[simp] theorem drawn_tags : (s.drawn).tags = s.tags := rfl
@[simp] theorem drawn_save : (s.drawn).save = s.save := rfl
@[simp] theorem drawn_jc : (s.drawn).jc = s.jc := rfl
@[simp] theorem drawn_anchor : (s.drawn).anchor = s.anchor := rfl
@[simp] theorem drawn_port : (s.drawn).port = s.port := rfl
@[simp] theorem drawn_lines : (s.drawn).lines = s.lines := rfl
@[simp] theorem drawn_stamp : (s.drawn).stamp = s.stamp := rfl
@[simp] theorem drawn_events : (s.drawn).events = s.events := rfl
@[simp] theorem drawn_link : (s.drawn).link = s.link := rfl

@[simp] theorem answer_pending (r : Result) (b : List Byte) : (s.answer r b).pending = s.pending := rfl
@[simp] theorem answer_jbase (r : Result) (b : List Byte) : (s.answer r b).jbase = s.jbase := rfl
@[simp] theorem answer_jsize (r : Result) (b : List Byte) : (s.answer r b).jsize = s.jsize := rfl
@[simp] theorem answer_inReset (r : Result) (b : List Byte) : (s.answer r b).inReset = s.inReset := rfl
@[simp] theorem answer_front (r : Result) (b : List Byte) : (s.answer r b).front = s.front := rfl
@[simp] theorem answer_windows (r : Result) (b : List Byte) : (s.answer r b).windows = s.windows := rfl
@[simp] theorem answer_tags (r : Result) (b : List Byte) : (s.answer r b).tags = s.tags := rfl
@[simp] theorem answer_save (r : Result) (b : List Byte) : (s.answer r b).save = s.save := rfl
@[simp] theorem answer_jc (r : Result) (b : List Byte) : (s.answer r b).jc = s.jc := rfl
@[simp] theorem answer_anchor (r : Result) (b : List Byte) : (s.answer r b).anchor = s.anchor := rfl
@[simp] theorem answer_port (r : Result) (b : List Byte) : (s.answer r b).port = s.port := rfl
@[simp] theorem answer_lines (r : Result) (b : List Byte) : (s.answer r b).lines = s.lines := rfl
@[simp] theorem answer_stamp (r : Result) (b : List Byte) : (s.answer r b).stamp = s.stamp := rfl
@[simp] theorem answer_events (r : Result) (b : List Byte) : (s.answer r b).events = s.events := rfl
@[simp] theorem answer_freeIndex (r : Result) (b : List Byte) : (s.answer r b).freeIndex = s.freeIndex := rfl

@[simp] theorem refuse_pending (r : Result) (n : Nat) : (s.refuse r n).pending = s.pending := rfl
@[simp] theorem refuse_jbase (r : Result) (n : Nat) : (s.refuse r n).jbase = s.jbase := rfl
@[simp] theorem refuse_jsize (r : Result) (n : Nat) : (s.refuse r n).jsize = s.jsize := rfl
@[simp] theorem refuse_inReset (r : Result) (n : Nat) : (s.refuse r n).inReset = s.inReset := rfl
@[simp] theorem refuse_front (r : Result) (n : Nat) : (s.refuse r n).front = s.front := rfl
@[simp] theorem refuse_windows (r : Result) (n : Nat) : (s.refuse r n).windows = s.windows := rfl
@[simp] theorem refuse_tags (r : Result) (n : Nat) : (s.refuse r n).tags = s.tags := rfl
@[simp] theorem refuse_save (r : Result) (n : Nat) : (s.refuse r n).save = s.save := rfl
@[simp] theorem refuse_jc (r : Result) (n : Nat) : (s.refuse r n).jc = s.jc := rfl
@[simp] theorem refuse_anchor (r : Result) (n : Nat) : (s.refuse r n).anchor = s.anchor := rfl
@[simp] theorem refuse_port (r : Result) (n : Nat) : (s.refuse r n).port = s.port := rfl
@[simp] theorem refuse_lines (r : Result) (n : Nat) : (s.refuse r n).lines = s.lines := rfl
@[simp] theorem refuse_stamp (r : Result) (n : Nat) : (s.refuse r n).stamp = s.stamp := rfl
@[simp] theorem refuse_events (r : Result) (n : Nat) : (s.refuse r n).events = s.events := rfl
@[simp] theorem refuse_freeIndex (r : Result) (n : Nat) : (s.refuse r n).freeIndex = s.freeIndex := rfl

@[simp] theorem respond_pending (st : Status) (d : List Byte) : (s.respond st d).pending = s.pending := by unfold State.respond; split <;> rfl
@[simp] theorem respond_jbase (st : Status) (d : List Byte) : (s.respond st d).jbase = s.jbase := by unfold State.respond; split <;> rfl
@[simp] theorem respond_jsize (st : Status) (d : List Byte) : (s.respond st d).jsize = s.jsize := by unfold State.respond; split <;> rfl
@[simp] theorem respond_inReset (st : Status) (d : List Byte) : (s.respond st d).inReset = s.inReset := by unfold State.respond; split <;> rfl
@[simp] theorem respond_windows (st : Status) (d : List Byte) : (s.respond st d).windows = s.windows := by unfold State.respond; split <;> rfl
@[simp] theorem respond_tags (st : Status) (d : List Byte) : (s.respond st d).tags = s.tags := by unfold State.respond; split <;> rfl
@[simp] theorem respond_jc (st : Status) (d : List Byte) : (s.respond st d).jc = s.jc := by unfold State.respond; split <;> rfl
@[simp] theorem respond_anchor (st : Status) (d : List Byte) : (s.respond st d).anchor = s.anchor := by unfold State.respond; split <;> rfl
@[simp] theorem respond_port (st : Status) (d : List Byte) : (s.respond st d).port = s.port := by unfold State.respond; split <;> rfl
@[simp] theorem respond_lines (st : Status) (d : List Byte) : (s.respond st d).lines = s.lines := by unfold State.respond; split <;> rfl
@[simp] theorem respond_stamp (st : Status) (d : List Byte) : (s.respond st d).stamp = s.stamp := by unfold State.respond; split <;> rfl
@[simp] theorem respond_events (st : Status) (d : List Byte) : (s.respond st d).events = s.events := by unfold State.respond; split <;> rfl
@[simp] theorem respond_link (st : Status) (d : List Byte) : (s.respond st d).link = s.link := by unfold State.respond; split <;> rfl
@[simp] theorem respond_freeIndex (st : Status) (d : List Byte) : (s.respond st d).freeIndex = s.freeIndex := by unfold State.respond; split <;> rfl

@[simp] theorem perform_pending (b : Bool) : (s.perform b).pending = s.pending := by unfold State.perform; split <;> rfl
@[simp] theorem perform_jbase (b : Bool) : (s.perform b).jbase = s.jbase := by unfold State.perform; split <;> rfl
@[simp] theorem perform_jsize (b : Bool) : (s.perform b).jsize = s.jsize := by unfold State.perform; split <;> rfl
@[simp] theorem perform_inReset (b : Bool) : (s.perform b).inReset = s.inReset := by unfold State.perform; split <;> rfl
@[simp] theorem perform_windows (b : Bool) : (s.perform b).windows = s.windows := by unfold State.perform; split <;> rfl
@[simp] theorem perform_tags (b : Bool) : (s.perform b).tags = s.tags := by unfold State.perform; split <;> rfl
@[simp] theorem perform_jc (b : Bool) : (s.perform b).jc = s.jc := by unfold State.perform; split <;> rfl
@[simp] theorem perform_anchor (b : Bool) : (s.perform b).anchor = s.anchor := by unfold State.perform; split <;> rfl
@[simp] theorem perform_lines (b : Bool) : (s.perform b).lines = s.lines := by unfold State.perform; split <;> rfl
@[simp] theorem perform_stamp (b : Bool) : (s.perform b).stamp = s.stamp := by unfold State.perform; split <;> rfl
@[simp] theorem perform_events (b : Bool) : (s.perform b).events = s.events := by unfold State.perform; split <;> rfl
@[simp] theorem perform_link (b : Bool) : (s.perform b).link = s.link := by unfold State.perform; split <;> rfl
@[simp] theorem perform_freeIndex (b : Bool) : (s.perform b).freeIndex = s.freeIndex := by unfold State.perform; split <;> rfl

@[simp] theorem endLong_pending (r : LongResult) : (s.endLong r).pending = s.pending := by unfold State.endLong; split <;> rfl
@[simp] theorem endLong_jbase (r : LongResult) : (s.endLong r).jbase = s.jbase := by unfold State.endLong; split <;> rfl
@[simp] theorem endLong_jsize (r : LongResult) : (s.endLong r).jsize = s.jsize := by unfold State.endLong; split <;> rfl
@[simp] theorem endLong_inReset (r : LongResult) : (s.endLong r).inReset = s.inReset := by unfold State.endLong; split <;> rfl
@[simp] theorem endLong_front (r : LongResult) : (s.endLong r).front = s.front := by unfold State.endLong; split <;> rfl
@[simp] theorem endLong_windows (r : LongResult) : (s.endLong r).windows = s.windows := by unfold State.endLong; split <;> rfl
@[simp] theorem endLong_tags (r : LongResult) : (s.endLong r).tags = s.tags := by unfold State.endLong; split <;> rfl
@[simp] theorem endLong_save (r : LongResult) : (s.endLong r).save = s.save := by unfold State.endLong; split <;> rfl
@[simp] theorem endLong_jc (r : LongResult) : (s.endLong r).jc = s.jc := by unfold State.endLong; split <;> rfl
@[simp] theorem endLong_anchor (r : LongResult) : (s.endLong r).anchor = s.anchor := by unfold State.endLong; split <;> rfl
@[simp] theorem endLong_port (r : LongResult) : (s.endLong r).port = s.port := by unfold State.endLong; split <;> rfl
@[simp] theorem endLong_lines (r : LongResult) : (s.endLong r).lines = s.lines := by unfold State.endLong; split <;> rfl
@[simp] theorem endLong_stamp (r : LongResult) : (s.endLong r).stamp = s.stamp := by unfold State.endLong; split <;> rfl
@[simp] theorem endLong_events (r : LongResult) : (s.endLong r).events = s.events := by unfold State.endLong; split <;> rfl
@[simp] theorem endLong_freeIndex (r : LongResult) : (s.endLong r).freeIndex = s.freeIndex := by unfold State.endLong; split <;> rfl

@[simp] theorem raiseIf_pending (b : Bool) (e : Event) : (s.raiseIf b e).pending = s.pending := by unfold State.raiseIf; split <;> rfl
@[simp] theorem raiseIf_jbase (b : Bool) (e : Event) : (s.raiseIf b e).jbase = s.jbase := by unfold State.raiseIf; split <;> rfl
@[simp] theorem raiseIf_jsize (b : Bool) (e : Event) : (s.raiseIf b e).jsize = s.jsize := by unfold State.raiseIf; split <;> rfl
@[simp] theorem raiseIf_inReset (b : Bool) (e : Event) : (s.raiseIf b e).inReset = s.inReset := by unfold State.raiseIf; split <;> rfl
@[simp] theorem raiseIf_front (b : Bool) (e : Event) : (s.raiseIf b e).front = s.front := by unfold State.raiseIf; split <;> rfl
@[simp] theorem raiseIf_windows (b : Bool) (e : Event) : (s.raiseIf b e).windows = s.windows := by unfold State.raiseIf; split <;> rfl
@[simp] theorem raiseIf_tags (b : Bool) (e : Event) : (s.raiseIf b e).tags = s.tags := by unfold State.raiseIf; split <;> rfl
@[simp] theorem raiseIf_save (b : Bool) (e : Event) : (s.raiseIf b e).save = s.save := by unfold State.raiseIf; split <;> rfl
@[simp] theorem raiseIf_jc (b : Bool) (e : Event) : (s.raiseIf b e).jc = s.jc := by unfold State.raiseIf; split <;> rfl
@[simp] theorem raiseIf_anchor (b : Bool) (e : Event) : (s.raiseIf b e).anchor = s.anchor := by unfold State.raiseIf; split <;> rfl
@[simp] theorem raiseIf_port (b : Bool) (e : Event) : (s.raiseIf b e).port = s.port := by unfold State.raiseIf; split <;> rfl
@[simp] theorem raiseIf_lines (b : Bool) (e : Event) : (s.raiseIf b e).lines = s.lines := by unfold State.raiseIf; split <;> rfl
@[simp] theorem raiseIf_stamp (b : Bool) (e : Event) : (s.raiseIf b e).stamp = s.stamp := by unfold State.raiseIf; split <;> rfl
@[simp] theorem raiseIf_link (b : Bool) (e : Event) : (s.raiseIf b e).link = s.link := by unfold State.raiseIf; split <;> rfl
@[simp] theorem raiseIf_freeIndex (b : Bool) (e : Event) : (s.raiseIf b e).freeIndex = s.freeIndex := by unfold State.raiseIf; split <;> rfl

@[simp] theorem dropOldest_pending : (s.dropOldest).pending = s.pending := by unfold State.dropOldest; split <;> rfl
@[simp] theorem dropOldest_jbase : (s.dropOldest).jbase = s.jbase := by unfold State.dropOldest; split <;> rfl
@[simp] theorem dropOldest_jsize : (s.dropOldest).jsize = s.jsize := by unfold State.dropOldest; split <;> rfl
@[simp] theorem dropOldest_inReset : (s.dropOldest).inReset = s.inReset := by unfold State.dropOldest; split <;> rfl
@[simp] theorem dropOldest_front : (s.dropOldest).front = s.front := by unfold State.dropOldest; split <;> rfl
@[simp] theorem dropOldest_windows : (s.dropOldest).windows = s.windows := by unfold State.dropOldest; split <;> rfl
@[simp] theorem dropOldest_tags : (s.dropOldest).tags = s.tags := by unfold State.dropOldest; split <;> rfl
@[simp] theorem dropOldest_save : (s.dropOldest).save = s.save := by unfold State.dropOldest; split <;> rfl
@[simp] theorem dropOldest_anchor : (s.dropOldest).anchor = s.anchor := by unfold State.dropOldest; split <;> rfl
@[simp] theorem dropOldest_port : (s.dropOldest).port = s.port := by unfold State.dropOldest; split <;> rfl
@[simp] theorem dropOldest_lines : (s.dropOldest).lines = s.lines := by unfold State.dropOldest; split <;> rfl
@[simp] theorem dropOldest_stamp : (s.dropOldest).stamp = s.stamp := by unfold State.dropOldest; split <;> rfl
@[simp] theorem dropOldest_events : (s.dropOldest).events = s.events := by unfold State.dropOldest; split <;> rfl
@[simp] theorem dropOldest_link : (s.dropOldest).link = s.link := by unfold State.dropOldest; split <;> rfl
@[simp] theorem dropOldest_freeIndex : (s.dropOldest).freeIndex = s.freeIndex := by unfold State.dropOldest; split <;> rfl

@[simp] theorem appendEntry_pending (d : DirEntry) : (s.appendEntry d).pending = s.pending := rfl
@[simp] theorem appendEntry_jbase (d : DirEntry) : (s.appendEntry d).jbase = s.jbase := rfl
@[simp] theorem appendEntry_jsize (d : DirEntry) : (s.appendEntry d).jsize = s.jsize := rfl
@[simp] theorem appendEntry_inReset (d : DirEntry) : (s.appendEntry d).inReset = s.inReset := rfl
@[simp] theorem appendEntry_front (d : DirEntry) : (s.appendEntry d).front = s.front := rfl
@[simp] theorem appendEntry_windows (d : DirEntry) : (s.appendEntry d).windows = s.windows := rfl
@[simp] theorem appendEntry_tags (d : DirEntry) : (s.appendEntry d).tags = s.tags := rfl
@[simp] theorem appendEntry_save (d : DirEntry) : (s.appendEntry d).save = s.save := rfl
@[simp] theorem appendEntry_anchor (d : DirEntry) : (s.appendEntry d).anchor = s.anchor := rfl
@[simp] theorem appendEntry_port (d : DirEntry) : (s.appendEntry d).port = s.port := rfl
@[simp] theorem appendEntry_lines (d : DirEntry) : (s.appendEntry d).lines = s.lines := rfl
@[simp] theorem appendEntry_stamp (d : DirEntry) : (s.appendEntry d).stamp = s.stamp := rfl
@[simp] theorem appendEntry_events (d : DirEntry) : (s.appendEntry d).events = s.events := rfl
@[simp] theorem appendEntry_link (d : DirEntry) : (s.appendEntry d).link = s.link := rfl
@[simp] theorem appendEntry_freeIndex (d : DirEntry) : (s.appendEntry d).freeIndex = s.freeIndex := rfl

@[simp] theorem truncate_pending (c : Word) (k : Nat) : (s.truncate c k).pending = s.pending := rfl
@[simp] theorem truncate_jbase (c : Word) (k : Nat) : (s.truncate c k).jbase = s.jbase := rfl
@[simp] theorem truncate_jsize (c : Word) (k : Nat) : (s.truncate c k).jsize = s.jsize := rfl
@[simp] theorem truncate_inReset (c : Word) (k : Nat) : (s.truncate c k).inReset = s.inReset := rfl
@[simp] theorem truncate_front (c : Word) (k : Nat) : (s.truncate c k).front = s.front := rfl
@[simp] theorem truncate_windows (c : Word) (k : Nat) : (s.truncate c k).windows = s.windows := rfl
@[simp] theorem truncate_tags (c : Word) (k : Nat) : (s.truncate c k).tags = s.tags := rfl
@[simp] theorem truncate_save (c : Word) (k : Nat) : (s.truncate c k).save = s.save := rfl
@[simp] theorem truncate_anchor (c : Word) (k : Nat) : (s.truncate c k).anchor = s.anchor := rfl
@[simp] theorem truncate_port (c : Word) (k : Nat) : (s.truncate c k).port = s.port := rfl
@[simp] theorem truncate_lines (c : Word) (k : Nat) : (s.truncate c k).lines = s.lines := rfl
@[simp] theorem truncate_stamp (c : Word) (k : Nat) : (s.truncate c k).stamp = s.stamp := rfl
@[simp] theorem truncate_events (c : Word) (k : Nat) : (s.truncate c k).events = s.events := rfl
@[simp] theorem truncate_link (c : Word) (k : Nat) : (s.truncate c k).link = s.link := rfl
@[simp] theorem truncate_freeIndex (c : Word) (k : Nat) : (s.truncate c k).freeIndex = s.freeIndex := rfl

@[simp] theorem scanPointers_pending (n h : Nat) : (s.scanPointers n h).pending = s.pending := rfl
@[simp] theorem scanPointers_jbase (n h : Nat) : (s.scanPointers n h).jbase = s.jbase := rfl
@[simp] theorem scanPointers_jsize (n h : Nat) : (s.scanPointers n h).jsize = s.jsize := rfl
@[simp] theorem scanPointers_inReset (n h : Nat) : (s.scanPointers n h).inReset = s.inReset := rfl
@[simp] theorem scanPointers_front (n h : Nat) : (s.scanPointers n h).front = s.front := rfl
@[simp] theorem scanPointers_windows (n h : Nat) : (s.scanPointers n h).windows = s.windows := rfl
@[simp] theorem scanPointers_tags (n h : Nat) : (s.scanPointers n h).tags = s.tags := rfl
@[simp] theorem scanPointers_save (n h : Nat) : (s.scanPointers n h).save = s.save := rfl
@[simp] theorem scanPointers_anchor (n h : Nat) : (s.scanPointers n h).anchor = s.anchor := rfl
@[simp] theorem scanPointers_port (n h : Nat) : (s.scanPointers n h).port = s.port := rfl
@[simp] theorem scanPointers_lines (n h : Nat) : (s.scanPointers n h).lines = s.lines := rfl
@[simp] theorem scanPointers_stamp (n h : Nat) : (s.scanPointers n h).stamp = s.stamp := rfl
@[simp] theorem scanPointers_events (n h : Nat) : (s.scanPointers n h).events = s.events := rfl
@[simp] theorem scanPointers_link (n h : Nat) : (s.scanPointers n h).link = s.link := rfl
@[simp] theorem scanPointers_freeIndex (n h : Nat) : (s.scanPointers n h).freeIndex = s.freeIndex := rfl

end Sys2Proof.Machine
end

