-- ==== Sys2Proof/Laws/Lines.lean ====
section
/-! SUPPORT. What a sampling event does with the two qualifiers, and that a line request leaves them alone (R163, R165). -/

namespace Sys2Proof.Machine

@[simp] theorem ckptRequest_ckpt (s : State) : s.ckptRequest.lines.ckpt = s.lines.ckpt := by
  unfold State.ckptRequest State.takeCommit
  split
  · rfl
  · split <;> rfl

@[simp] theorem ckptRequest_fallback (s : State) : s.ckptRequest.lines.fallback = s.lines.fallback := by
  unfold State.ckptRequest State.takeCommit
  split
  · rfl
  · split <;> rfl

@[simp] theorem fallbackRequest_ckpt (s : State) : s.fallbackRequest.lines.ckpt = s.lines.ckpt := by
  unfold State.fallbackRequest State.takeRollback
  split
  · rfl
  · split <;> rfl

@[simp] theorem fallbackRequest_fallback (s : State) : s.fallbackRequest.lines.fallback = s.lines.fallback := by
  unfold State.fallbackRequest State.takeRollback
  split
  · rfl
  · split <;> rfl

/-- R163: whatever requests a sampling event makes, each qualifier is the one its sample gives. -/
theorem sampleLines_qualifiers (ckpt fallback : Bool) (s : State) :
    (s.sampleLines ckpt fallback).lines.ckpt = s.lines.ckpt.sample s.link.policies.qualify ckpt ∧
      (s.sampleLines ckpt fallback).lines.fallback = s.lines.fallback.sample s.link.policies.qualify fallback := by
  unfold State.sampleLines
  dsimp only
  split <;> (try split) <;> simp [State.drawn]

/-- R163, R164: a sample at the level opposite the qualified one completes the run exactly when the run then stands at Q + 1 or above. -/
theorem completes_opposite (count : BitVec 4) (q : Qualifier) :
    q.completes count (!q.asserted) = decide (count.toNat + 1 ≤ q.run + 1) := by
  cases h : q.asserted <;> simp [Qualifier.completes, h]

end Sys2Proof.Machine
end

