-- ==== Sys2Proof/Laws/PerInstr.lean ====
section
/-! SUPPORT. The frames of the link commands (R190), instruction by instruction: the command byte and argument bytes that firmware
sends for a well-formed command spell that command again, and their number is the command's argument count. -/

namespace Sys2Proof.Laws.Frame

/-- The bytes of a command's frame spell the command, and their number is its argument count. -/
def Statement (i : Instr) : Prop :=
  i.wellFormed = true → ∀ code args, frameBytes i = some (code, args) →
    frameCommand code args = i ∧ ∀ shape, commandShape code = some shape → args.length = shape.1

/-- A byte that R190 does not list spells an unknown command. -/
theorem unlisted (code : Byte) (h : commandShape code = none) : frameCommand code [] = .unknownCommand code := by
  unfold commandShape at h
  unfold frameCommand
  split at h <;> first | contradiction | rfl

/-- An event that no frame spells. -/
theorem noFrame (i : Instr) (h : frameBytes i = none) : Statement i := by
  intro _ code args hb
  rw [h] at hb
  contradiction

/-- A command whose frame bytes are known. -/
theorem ofBytes (i : Instr) (c : Byte) (bs : List Byte) (n r : Nat) (hb : frameBytes i = some (c, bs)) (hc : frameCommand c bs = i)
    (hs : commandShape c = some (n, r)) (hl : bs.length = n) : Statement i := by
  intro _ code args h
  rw [hb] at h
  simp only [Option.some.injEq, Prod.mk.injEq] at h
  obtain ⟨rfl, rfl⟩ := h
  refine ⟨hc, ?_⟩
  intro shape h
  rw [hs] at h
  simp only [Option.some.injEq] at h
  subst h
  exact hl

theorem powerUp (straps : Straps) (prstLow pfwLow csLow : Bool) (raised : BitVec 12) :
    Statement (.powerUp straps prstLow pfwLow csLow raised) := noFrame _ rfl

theorem prstAssert (straps : Straps) (raised : BitVec 12) : Statement (.prstAssert straps raised) := noFrame _ rfl

theorem prstWithdraw : Statement .prstWithdraw := noFrame _ rfl

theorem requestAccept (r : Request) : Statement (.requestAccept r) := noFrame _ rfl

theorem holdExpiry : Statement .holdExpiry := noFrame _ rfl

theorem memoryResponse (a : MemAnswer) : Statement (.memoryResponse a) := noFrame _ rfl

theorem commit : Statement .commit := ofBytes _ 0x20 [] 0 0 rfl rfl rfl rfl

theorem autoCommitExpiry : Statement .autoCommitExpiry := noFrame _ rfl

theorem lineQualify (l : LineRun) : Statement (.lineQualify l) := noFrame _ rfl

theorem rollback (target : Word) : Statement (.rollback target) :=
  ofBytes _ 0x21 _ 4 0 rfl (congrArg Instr.rollback (leWord_leBytes target)) rfl (by simp)

theorem discard (upTo : Word) : Statement (.discard upTo) :=
  ofBytes _ 0x22 _ 4 0 rfl (congrArg Instr.discard (leWord_leBytes upTo)) rfl (by simp)

theorem format : Statement .format := ofBytes _ 0x23 [] 0 0 rfl rfl rfl rfl

theorem clearDamage : Statement .clearDamage := ofBytes _ 0x24 [] 0 0 rfl rfl rfl rfl

theorem retireSweepEnd : Statement .retireSweepEnd := noFrame _ rfl

theorem fullClearEnd : Statement .fullClearEnd := noFrame _ rfl

theorem haltBegin : Statement .haltBegin := noFrame _ rfl

theorem haltEnd : Statement .haltEnd := noFrame _ rfl

theorem stampIncrement : Statement .stampIncrement := noFrame _ rfl

theorem frameStart : Statement .frameStart := noFrame _ rfl

theorem frameEnd : Statement .frameEnd := noFrame _ rfl

theorem getStatus : Statement .getStatus := ofBytes _ 0x01 [] 0 24 rfl rfl rfl rfl

theorem getIdentity : Statement .getIdentity := ofBytes _ 0x02 [] 0 17 rfl rfl rfl rfl

theorem readEvents : Statement .readEvents := ofBytes _ 0x03 [] 0 2 rfl rfl rfl rfl

theorem setEventMask (value : Half) : Statement (.setEventMask value) :=
  ofBytes _ 0x04 _ 2 0 rfl (congrArg Instr.setEventMask (by rw [fieldAt_whole 2 _ (by simp)]; exact leHalf_leBytes value)) rfl (by simp)

theorem getOpenEpoch : Statement .getOpenEpoch := ofBytes _ 0x05 [] 0 24 rfl rfl rfl rfl

theorem getDirectoryEntry (k : Byte) : Statement (.getDirectoryEntry k) :=
  ofBytes _ 0x06 _ 1 23 rfl rfl rfl rfl

theorem getReport : Statement .getReport := ofBytes _ 0x07 [] 0 23 rfl rfl rfl rfl

theorem setPolicy (selector : Byte) (value : Half) : Statement (.setPolicy selector value) :=
  ofBytes _ 0x08 _ 3 0 rfl (congrArg (Instr.setPolicy selector) (leHalf_leBytes value)) rfl (by simp)

theorem getPolicy : Statement .getPolicy := ofBytes _ 0x09 [] 0 6 rfl rfl rfl rfl

theorem stageWindow (slot : Byte) (base length : Word) (mode : Byte) : Statement (.stageWindow slot base length mode) := by
  refine ofBytes _ 0x10 _ 10 0 rfl ?_ rfl (by simp)
  have h1 : ∀ t : List Byte, fieldAt 1 4 (slot :: leBytes 4 base.toNat ++ leBytes 4 length.toNat ++ t) = leBytes 4 base.toNat := by
    intro t; simp [fieldAt, leBytes]
  have h2 : ∀ t : List Byte, fieldAt 5 4 (slot :: leBytes 4 base.toNat ++ leBytes 4 length.toNat ++ t) = leBytes 4 length.toNat := by
    intro t; simp [fieldAt, leBytes]
  show Instr.stageWindow _ (leWord (fieldAt 1 4 _)) (leWord (fieldAt 5 4 _)) _ = _
  rw [h1, h2, leWord_leBytes, leWord_leBytes]
  simp [leBytes]

theorem clearWindow (slot : Byte) : Statement (.clearWindow slot) :=
  ofBytes _ 0x11 _ 1 0 rfl rfl rfl rfl

theorem getWindow (table slot : Byte) : Statement (.getWindow table slot) :=
  ofBytes _ 0x12 _ 2 13 rfl rfl rfl rfl

theorem setStamp (value : Word) : Statement (.setStamp value) :=
  ofBytes _ 0x30 _ 4 0 rfl (congrArg Instr.setStamp (leWord_leBytes value)) rfl (by simp)

theorem getStamp : Statement .getStamp := ofBytes _ 0x31 [] 0 4 rfl rfl rfl rfl

theorem linkReset : Statement .linkReset := ofBytes _ 0x3F [] 0 0 rfl rfl rfl rfl

theorem unknownCommand (code : Byte) : Statement (.unknownCommand code) := by
  intro hw c args h
  simp only [frameBytes, Option.some.injEq, Prod.mk.injEq] at h
  obtain ⟨rfl, rfl⟩ := h
  simp only [Instr.wellFormed, Option.isNone_iff_eq_none] at hw
  refine ⟨unlisted code hw, ?_⟩
  intro shape hs
  rw [hw] at hs
  contradiction

theorem lineSamplingEvent (ckpt : Bool) (fallback : Bool) : Statement (.lineSamplingEvent ckpt fallback) := noFrame _ rfl

theorem bytePositionEnd (mosi : Byte) : Statement (.bytePositionEnd mosi) := noFrame _ rfl

end Sys2Proof.Laws.Frame
end

