-- ==== Sys2Proof/Laws/Settle.lean ====
section
/-! SUPPORT. The steps inside an event: what one of them can be, and that a property which each keeps holds at the event's end. -/

namespace Sys2Proof.Machine

/-- Of two steps that may come in either order, the one made is one of them, from the state or from the state with a free value
drawn. -/
theorem eitherFirst_some {first : Bool} {s t : State} {a b : State → Option State} (h : eitherFirst first s a b = some t) :
    ∃ u, (u = s ∨ u = s.drawn) ∧ (a u = some t ∨ b u = some t) := by
  unfold eitherFirst at h
  split at h
  · contradiction
  · rename_i x ha hb
    exact ⟨s, Or.inl rfl, Or.inl (by rw [ha]; exact h)⟩
  · rename_i x ha hb
    exact ⟨s, Or.inl rfl, Or.inr (by rw [hb]; exact h)⟩
  · split at h
    · exact ⟨s.drawn, Or.inr rfl, Or.inl h⟩
    · exact ⟨s.drawn, Or.inr rfl, Or.inr h⟩

/-- R64, R65: everything that giving a write to the save unit can do. -/
theorem beginSave_cases (e : Entry) (s : State) :
    s.beginSave e = s.perform true ∨
      s.beginSave e = s.claimSaveRead e.req.granule (tagEntry s.windows.committed e.req.granule) ∨
      ∃ r, r = s.enterRoom e.req.granule (tagEntry s.windows.committed e.req.granule) ∧
        (s.beginSave e = r ∨ r.roomStep e.req.granule (tagEntry s.windows.committed e.req.granule) = some (s.beginSave e)) := by
  unfold State.beginSave
  simp only
  split
  · exact Or.inl rfl
  · split
    · exact Or.inr (Or.inl rfl)
    · refine Or.inr (Or.inr ⟨_, rfl, ?_⟩)
      cases h : State.roomStep e.req.granule (tagEntry s.windows.committed e.req.granule)
          (s.enterRoom e.req.granule (tagEntry s.windows.committed e.req.granule)) with
      | none => exact Or.inl rfl
      | some t => exact Or.inr rfl

/-- A property that a draw and the two offers keep is kept by one offer. -/
theorem offerStep_keeps {P : State → Prop} (hd : ∀ s, P s → P s.drawn) (hk : ∀ s t, s.offerCkpt = some t → P s → P t)
    (hf : ∀ s t, s.offerFallback = some t → P s → P t) {s t : State} (h : s.offerStep = some t) (hs : P s) : P t := by
  obtain ⟨u, hu, hab⟩ := eitherFirst_some h
  have hPu : P u := by
    rcases hu with rfl | rfl
    · exact hs
    · exact hd _ hs
  rcases hab with h1 | h1
  · exact hk _ _ h1 hPu
  · exact hf _ _ h1 hPu

/-- R86, R123: what the two offers keep, both of them together keep. -/
theorem offerLatches_keeps {P : State → Prop} (hd : ∀ s, P s → P s.drawn) (hk : ∀ s t, s.offerCkpt = some t → P s → P t)
    (hf : ∀ s t, s.offerFallback = some t → P s → P t) (s : State) (hs : P s) : P s.offerLatches := by
  unfold State.offerLatches
  split
  · exact hs
  · rename_i t ht
    have hPt := offerStep_keeps hd hk hf ht hs
    cases h : t.offerStep with
    | none => exact hPt
    | some u => exact offerStep_keeps hd hk hf h hPt

/-- A step of the front port is an examination of the head or an acceptance. -/
theorem frontStep_some {s t : State} (h : s.frontStep = some t) : s.headStep = some t ∨ s.acceptStep = some t := by
  unfold State.frontStep at h
  split at h
  · rename_i x hx
    exact Or.inl (by rw [hx]; exact h)
  · exact Or.inr h

/-- A property that the five kinds of step keep, and that does not look at the free-value counter, is kept by one step inside an
event. -/
theorem internalStep_keeps {P : State → Prop} (hd : ∀ s, P s → P s.drawn) (hc : ∀ s t, s.ctlStep = some t → P s → P t)
    (hk : ∀ s t, s.offerCkpt = some t → P s → P t) (hf : ∀ s t, s.offerFallback = some t → P s → P t)
    (hh : ∀ s t, s.headStep = some t → P s → P t) (ha : ∀ s t, s.acceptStep = some t → P s → P t) {s t : State}
    (h : s.internalStep = some t) (hs : P s) : P t := by
  unfold State.internalStep at h
  split at h
  · rename_i x hx
    exact hc s t (by rw [hx]; exact h) hs
  · obtain ⟨u, hu, hab⟩ := eitherFirst_some h
    have hPu : P u := by
      rcases hu with rfl | rfl
      · exact hs
      · exact hd _ hs
    rcases hab with ho | hfr
    · exact offerStep_keeps hd hk hf ho hPu
    · rcases frontStep_some hfr with h1 | h1
      · exact hh _ _ h1 hPu
      · exact ha _ _ h1 hPu

/-- A property that one step inside an event keeps holds after all of them. -/
theorem settleWith_keeps {P : State → Prop} (h : ∀ s t, s.internalStep = some t → P s → P t) (n : Nat) (s : State) (hs : P s) :
    P (State.settleWith n s) := by
  induction n generalizing s with
  | zero => exact hs
  | succ n ih =>
    unfold State.settleWith
    split
    · exact hs
    · rename_i t ht
      exact ih t (h s t ht hs)

theorem settle_keeps {P : State → Prop} (h : ∀ s t, s.internalStep = some t → P s → P t) (s : State) (hs : P s) : P s.settle :=
  settleWith_keeps h s.fuel s hs

/-- With no step left, settling changes nothing. -/
theorem settle_of_none {s : State} (h : s.internalStep = none) : s.settle = s := by
  unfold State.settle State.fuel
  rw [Nat.add_comm]
  show State.settleWith (_ + 63 + 1) s = s
  unfold State.settleWith
  rw [h]

/-! ### The controller's claim and the grant -/

/-- R156, R169: raising the controller's claim changes nothing, or sets the claim. -/
theorem raiseCtlClaim_cases (s : State) :
    s.raiseCtlClaim = s ∨ ∃ t, s.raiseCtlClaim = { s with port := { s.port with ctlClaim := some t } } := by
  unfold State.raiseCtlClaim
  split
  · exact Or.inl rfl
  · split
    · exact Or.inl rfl
    · split
      · exact Or.inl rfl
      · exact Or.inr ⟨_, rfl⟩

/-- R158: the grant changes the port and at most draws a free value. -/
theorem arbitrate_cases (w : Bool) (s : State) :
    s.arbitrate w = s ∨ (∃ c, s.arbitrate w = { s with port := s.port.grant c }) ∨
      ∃ c, s.arbitrate w = { s.drawn with port := s.port.grant c } := by
  unfold State.arbitrate
  split
  · exact Or.inl rfl
  · split
    · exact Or.inl rfl
    · exact Or.inr (Or.inl ⟨_, rfl⟩)
    · exact Or.inr (Or.inl ⟨_, rfl⟩)
    · split
      · exact Or.inr (Or.inl ⟨_, rfl⟩)
      · split
        · exact Or.inr (Or.inl ⟨_, rfl⟩)
        · split
          · exact Or.inr (Or.inr ⟨_, rfl⟩)
          · exact Or.inr (Or.inr ⟨_, rfl⟩)

/-- A property of everything but the port and the free-value counter that each step inside an event keeps holds at the event's
end. -/
theorem finish_keeps {P : State → Prop} (h : ∀ s t, s.internalStep = some t → P s → P t)
    (hp : ∀ s p n, P s → P { s with port := p, freeIndex := n }) (w : Bool) (s : State) (hs : P s) : P (s.finish w) := by
  have h1 := settle_keeps h s hs
  unfold State.finish
  have h2 : P s.settle.raiseCtlClaim := by
    rcases raiseCtlClaim_cases s.settle with e | ⟨t, e⟩
    · rw [e]; exact h1
    · rw [e]; exact hp _ _ s.settle.freeIndex h1
  rcases arbitrate_cases w s.settle.raiseCtlClaim with e | ⟨c, e⟩ | ⟨c, e⟩
  · rw [e]; exact h2
  · rw [e]; exact hp _ _ s.settle.raiseCtlClaim.freeIndex h2
  · rw [e]; exact hp s.settle.raiseCtlClaim _ (s.settle.raiseCtlClaim.freeIndex + 1) h2

/-- An event keeps what its own effect and the steps inside it keep. -/
theorem event_keeps {P : State → Prop} (h : ∀ s t, s.internalStep = some t → P s → P t)
    (hp : ∀ s p n, P s → P { s with port := p, freeIndex := n }) {f : State → State} (s : State) (hf : P s → P (f s)) (hs : P s) :
    P (s.event f) := by
  unfold State.event State.live
  split
  · exact hs
  · exact finish_keeps h hp _ _ (hf hs)

end Sys2Proof.Machine
end

