-- ==== Sys2Proof/Laws/Tags.lean ====
section
/-! SUPPORT. The tag store: what each operation makes every entry read as (R37 to R39), and that each keeps the canonical form. -/

namespace Sys2Proof.Machine

/-! ### Reading the list -/

theorem listedTag_none_of_small : ∀ (l : List (Nat × Gen)) (t : Nat), risingTags l = true → (∀ p ∈ l.head?, t < p.1) →
    listedTag l t = none
  | [], _, _, _ => rfl
  | [(k, v)], t, _, h => by
    have : t < k := h (k, v) rfl
    simp [listedTag]; omega
  | (k, v) :: (k', v') :: rest, t, hr, h => by
    have hk : t < k := h (k, v) rfl
    simp only [risingTags, Bool.and_eq_true, decide_eq_true_eq] at hr
    have ih := listedTag_none_of_small ((k', v') :: rest) t hr.2 (by intro p hp; simp at hp; subst hp; simp; omega)
    rw [listedTag, if_neg (by omega), ih]

theorem listedTag_putTag (l : List (Nat × Gen)) (t : Nat) (g : Gen) (u : Nat) :
    listedTag (putTag l t g) u = if u = t then some g else listedTag l u := by
  induction l with
  | nil => simp [putTag, listedTag, eq_comm]
  | cons p rest ih =>
    obtain ⟨k, v⟩ := p
    simp only [putTag]
    split
    · simp only [listedTag]
      by_cases h : u = t
      · simp [h]
      · simp [h, Ne.symm h]
    · split
      · rename_i _ h
        subst h
        by_cases h : u = t
        · simp [listedTag, h]
        · simp [listedTag, h, Ne.symm h]
      · simp only [listedTag, ih]
        by_cases hu : u = t
        · subst hu; rw [if_neg (by omega)]; simp
        · simp [hu]

theorem listedTag_filter_key (l : List (Nat × Gen)) (t u : Nat) :
    listedTag (l.filter fun p => p.1 ≠ t) u = if u = t then none else listedTag l u := by
  induction l with
  | nil => simp [listedTag]
  | cons p rest ih =>
    obtain ⟨k, v⟩ := p
    by_cases hk : k = t
    · subst hk
      rw [List.filter_cons_of_neg (by simp), ih]
      by_cases hu : u = k
      · simp [hu]
      · simp [hu, listedTag, Ne.symm hu]
    · rw [List.filter_cons_of_pos (by simpa using hk)]
      simp only [listedTag, ih]
      by_cases hku : k = u
      · subst hku; simp [hk]
      · simp [hku]

theorem listedTag_map_retire (l : List (Nat × Gen)) (r : Gen) (u : Nat) :
    listedTag (l.map fun p => if p.2 = r then (p.1, 0) else p) u =
      (listedTag l u).map fun v => if v = r then 0 else v := by
  induction l with
  | nil => rfl
  | cons p rest ih =>
    obtain ⟨k, v⟩ := p
    simp only [List.map_cons, listedTag]
    by_cases hv : v = r
    · simp only [hv, if_true, ih]
      split <;> simp
    · simp only [hv, if_false, ih]
      split <;> simp [hv]

theorem mem_of_listedTag (l : List (Nat × Gen)) (t : Nat) (g : Gen) (h : listedTag l t = some g) : (t, g) ∈ l := by
  induction l with
  | nil => simp [listedTag] at h
  | cons p rest ih =>
    obtain ⟨k, v⟩ := p
    simp only [listedTag] at h
    split at h
    · rename_i hk
      simp only [Option.some.injEq] at h
      subst hk; subst h; simp
    · exact List.mem_cons_of_mem _ (ih h)

/-! ### Rising entry numbers -/

theorem risingTags_iff (l : List (Nat × Gen)) : risingTags l = true ↔ l.Pairwise (fun p q => p.1 < q.1) := by
  induction l with
  | nil => simp [risingTags]
  | cons p rest ih =>
    cases rest with
    | nil => simp [risingTags]
    | cons q rest =>
      obtain ⟨k, v⟩ := p
      obtain ⟨k', v'⟩ := q
      simp only [risingTags, Bool.and_eq_true, decide_eq_true_eq, ih]
      constructor
      · rintro ⟨h, hp⟩
        refine List.pairwise_cons.2 ⟨?_, hp⟩
        intro a ha
        rcases List.mem_cons.1 ha with rfl | ha
        · exact h
        · have := (List.pairwise_cons.1 hp).1 a ha
          simp at this ⊢; omega
      · intro hp
        have h := List.pairwise_cons.1 hp
        exact ⟨h.1 (k', v') (by simp), h.2⟩

theorem listedTag_filter_value (l : List (Nat × Gen)) (r : Gen) (u : Nat) (hl : risingTags l = true) :
    listedTag (l.filter fun p => p.2 ≠ r) u = (listedTag l u).bind fun v => if v = r then none else some v := by
  induction l with
  | nil => simp [listedTag]
  | cons p rest ih =>
    obtain ⟨k, v⟩ := p
    have hp := (risingTags_iff _).1 hl
    have hrest := (risingTags_iff _).2 (List.pairwise_cons.1 hp).2
    by_cases hv : v = r
    · rw [List.filter_cons_of_neg (by simp [hv]), ih hrest]
      by_cases hk : k = u
      · subst hk
        have hnone : listedTag rest k = none := by
          refine listedTag_none_of_small rest k hrest ?_
          intro q hq
          exact (List.pairwise_cons.1 hp).1 q (List.mem_of_mem_head? hq)
        simp [listedTag, hnone, hv]
      · simp [listedTag, hk]
    · rw [List.filter_cons_of_pos (by simpa using hv)]
      by_cases hk : k = u
      · simp [listedTag, hk, hv]
      · have := ih hrest
        simp only [listedTag, hk, if_false]
        exact this

theorem rising_of_sublist {l m : List (Nat × Gen)} (h : l.Sublist m) (hm : risingTags m = true) : risingTags l = true :=
  (risingTags_iff _).2 (List.Pairwise.sublist h ((risingTags_iff _).1 hm))

theorem rising_map_retire (l : List (Nat × Gen)) (r : Gen) (h : risingTags l = true) :
    risingTags (l.map fun p => if p.2 = r then (p.1, 0) else p) = true := by
  rw [risingTags_iff] at *
  rw [List.pairwise_map]
  refine h.imp ?_
  intro a b hab
  split <;> split <;> simpa using hab

theorem mem_putTag (l : List (Nat × Gen)) (t : Nat) (g : Gen) (p : Nat × Gen) (h : p ∈ putTag l t g) : p = (t, g) ∨ p ∈ l := by
  induction l with
  | nil => simpa [putTag] using h
  | cons q rest ih =>
    obtain ⟨k, v⟩ := q
    simp only [putTag] at h
    split at h
    · rcases List.mem_cons.1 h with h | h
      · exact Or.inl h
      · exact Or.inr h
    · split at h
      · rcases List.mem_cons.1 h with h | h
        · exact Or.inl h
        · exact Or.inr (List.mem_cons_of_mem _ h)
      · rcases List.mem_cons.1 h with h | h
        · exact Or.inr (by simp [h])
        · rcases ih h with h | h
          · exact Or.inl h
          · exact Or.inr (List.mem_cons_of_mem _ h)

theorem rising_putTag (l : List (Nat × Gen)) (t : Nat) (g : Gen) (h : risingTags l = true) : risingTags (putTag l t g) = true := by
  rw [risingTags_iff] at *
  induction l with
  | nil => simp [putTag]
  | cons q rest ih =>
    obtain ⟨k, v⟩ := q
    have hq := List.pairwise_cons.1 h
    simp only [putTag]
    split
    · rename_i hlt
      refine List.pairwise_cons.2 ⟨?_, h⟩
      intro a ha
      rcases List.mem_cons.1 ha with rfl | ha
      · exact hlt
      · have := hq.1 a ha; simp at this ⊢; omega
    · split
      · rename_i _ heq
        subst heq
        exact List.pairwise_cons.2 ⟨fun a ha => hq.1 a ha, hq.2⟩
      · refine List.pairwise_cons.2 ⟨?_, ih hq.2⟩
        intro a ha
        rcases mem_putTag _ _ _ _ ha with rfl | ha
        · simp; omega
        · exact hq.1 a ha

/-! ### The operations -/

/-- R37: the tag set changes one entry. -/
theorem read_set (s : TagStore) (t u : Nat) (g : Gen) : (s.set t g).read u = if u = t then g else s.read u := by
  unfold TagStore.set TagStore.read
  split
  · rename_i h
    obtain ⟨hb, hg⟩ := h
    simp only [listedTag_filter_key]
    by_cases hu : u = t
    · simp [hu, hb, hg, TagBase.read]
    · simp [hu]
  · simp only [listedTag_putTag]
    by_cases hu : u = t <;> simp [hu]

/-- R38: a retire sweep for r resets the entries that hold r and no other. -/
theorem read_retire (s : TagStore) (r : Gen) (u : Nat) (h : s.wf = true) :
    (s.retire r).read u = if s.read u = r then 0 else s.read u := by
  unfold TagStore.wf at h
  simp only [Bool.and_eq_true] at h
  unfold TagStore.retire TagStore.read
  obtain ⟨base, listed⟩ := s
  cases base with
  | zero =>
    simp only [listedTag_filter_value _ _ _ h.1]
    cases hl : listedTag listed u with
    | none => simp only [TagBase.read, Option.bind_none, Option.getD_none]; exact (ite_self _).symm
    | some v =>
      by_cases hv : v = r
      · simp [hv, TagBase.read]
      · simp [hv]
  | unknown d ret =>
    simp only [listedTag_map_retire]
    cases hl : listedTag listed u with
    | some v => simp
    | none =>
      simp only [Option.map_none, Option.getD_none, TagBase.read, List.mem_cons]
      by_cases h1 : Config.tagAtReset d u ∈ ret
      · simp [h1]
      · by_cases h2 : Config.tagAtReset d u = r
        · simp only [h2, true_or, if_true]
          split <;> simp
        · simp [h1, h2]

/-- R39: after a full clear every entry is 0. -/
theorem read_cleared (u : Nat) : TagStore.cleared.read u = 0 := rfl

theorem wf_cleared : TagStore.cleared.wf = true := rfl

theorem wf_set (s : TagStore) (t : Nat) (g : Gen) (h : s.wf = true) : (s.set t g).wf = true := by
  unfold TagStore.wf at h
  simp only [Bool.and_eq_true] at h
  unfold TagStore.set
  split
  · rename_i hz
    obtain ⟨hb, _⟩ := hz
    simp only [TagStore.wf, Bool.and_eq_true]
    refine ⟨rising_of_sublist List.filter_sublist h.1, ?_⟩
    have h2 := h.2
    simp only [hb, bne_self_eq_false, Bool.false_or, List.all_eq_true] at h2 ⊢
    intro p hp
    exact h2 p (List.mem_of_mem_filter hp)
  · rename_i hz
    simp only [TagStore.wf, Bool.and_eq_true]
    refine ⟨rising_putTag _ _ _ h.1, ?_⟩
    have h2 := h.2
    by_cases hb : s.base = .zero
    · have hg : g ≠ 0 := fun hg => hz ⟨hb, hg⟩
      simp only [hb, bne_self_eq_false, Bool.false_or, List.all_eq_true] at h2 ⊢
      intro p hp
      rcases mem_putTag _ _ _ _ hp with rfl | hp
      · simpa using hg
      · exact h2 p hp
    · simp [hb]

theorem wf_retire (s : TagStore) (r : Gen) (h : s.wf = true) : (s.retire r).wf = true := by
  obtain ⟨base, listed⟩ := s
  unfold TagStore.wf at h
  simp only [Bool.and_eq_true] at h
  cases base with
  | zero =>
    simp only [TagStore.retire, TagStore.wf, Bool.and_eq_true]
    refine ⟨rising_of_sublist List.filter_sublist h.1, ?_⟩
    have h2 := h.2
    simp only [bne_self_eq_false, Bool.false_or, List.all_eq_true] at h2 ⊢
    intro p hp
    exact h2 p (List.mem_of_mem_filter hp)
  | unknown d ret =>
    simp only [TagStore.retire, TagStore.wf, Bool.and_eq_true]
    exact ⟨rising_map_retire _ _ h.1, by simp⟩

end Sys2Proof.Machine
end

