-- ==== Sys2Proof/Laws/Windows.lean ====
section
/-! SUPPORT. Window tables: where a granule is found (R7), and the tag entry it owns (R20). -/

namespace Sys2Proof.Machine

theorem Window.holds_iff (w : Window) (g : Nat) : w.holds g = true ↔ w.base ≤ g ∧ g < w.base + w.length := by
  simp [Window.holds]

/-- A window that is found for a granule stands in the table and holds it. -/
theorem windowAt_some : ∀ (table : WindowTable) (g : Nat) (w : Window), windowAt table g = some w →
    ∃ i : Nat, table[i]? = some (some w) ∧ w.holds g = true
  | [], _, _, h => by simp [windowAt] at h
  | none :: ws, g, w, h => by
    obtain ⟨i, hi, hw⟩ := windowAt_some ws g w h
    exact ⟨i + 1, by simpa using hi, hw⟩
  | some v :: ws, g, w, h => by
    unfold windowAt at h
    split at h
    · rename_i hv
      cases h
      exact ⟨0, rfl, hv⟩
    · obtain ⟨i, hi, hw⟩ := windowAt_some ws g w h
      exact ⟨i + 1, by simpa using hi, hw⟩

/-- Where no window holds a granule, none is found. -/
theorem windowAt_none : ∀ (table : WindowTable) (g : Nat), windowAt table g = none →
    ∀ (i : Nat) (w : Window), table[i]? = some (some w) → w.holds g = false
  | [], _, _, i, w, h => by simp at h
  | none :: ws, g, hn, i, w, h => by
    cases i with
    | zero => simp at h
    | succ i => exact windowAt_none ws g hn i w (by simpa using h)
  | some v :: ws, g, hn, i, w, h => by
    unfold windowAt at hn
    split at hn
    · contradiction
    · rename_i hv
      cases i with
      | zero =>
        simp only [List.getElem?_cons_zero, Option.some.injEq] at h
        subst h
        simpa using hv
      | succ i => exact windowAt_none ws g hn i w (by simpa using h)

/-- R20: the tag entry from a running tag base, for the one JOURNALED window that holds the granule. -/
theorem tagEntryFrom_eq : ∀ (table : WindowTable) (base i g : Nat) (w : Window), table[i]? = some (some w) →
    w.mode = .journaled → w.holds g = true →
    (∀ j v, j < i → table[j]? = some (some v) → v.mode = .journaled → v.holds g = false) →
    tagEntryFrom table base g = base + journaledLength (table.take i) + (g - w.base)
  | [], _, i, _, _, h, _, _, _ => by simp at h
  | none :: ws, base, i, g, w, h, hm, hw, ho => by
    cases i with
    | zero => simp at h
    | succ i =>
      have ih := tagEntryFrom_eq ws base i g w (by simpa using h) hm hw fun j v hj hv =>
        ho (j + 1) v (by omega) (by simpa using hv)
      simpa [tagEntryFrom, journaledLength, tagLength] using ih
  | some v :: ws, base, i, g, w, h, hm, hw, ho => by
    cases i with
    | zero =>
      simp only [List.getElem?_cons_zero, Option.some.injEq] at h
      subst h
      simp [tagEntryFrom, hm, hw, journaledLength]
    | succ i =>
      have hrest : ∀ j u, j < i → ws[j]? = some (some u) → u.mode = .journaled → u.holds g = false := fun j u hj hu =>
        ho (j + 1) u (by omega) (by simpa using hu)
      unfold tagEntryFrom
      cases hv : v.mode with
      | journaled =>
        have hn := ho 0 v (by omega) (by simp) hv
        have ih := tagEntryFrom_eq ws (base + v.length) i g w (by simpa using h) hm hw hrest
        simp [hn, ih, journaledLength, tagLength, hv]
        omega
      | frozen =>
        have ih := tagEntryFrom_eq ws base i g w (by simpa using h) hm hw hrest
        simp [ih, journaledLength, tagLength, hv]

/-- R20: the tag base of a slot above a JOURNALED window lies behind that window's entries. -/
theorem journaledLength_take_le (table : WindowTable) (i j : Nat) (w : Window) (h : table[i]? = some (some w))
    (hm : w.mode = .journaled) (hij : i < j) : journaledLength (table.take i) + w.length ≤ journaledLength (table.take j) := by
  induction table generalizing i j with
  | nil => simp at h
  | cons x xs ih =>
    cases j with
    | zero => omega
    | succ j =>
      cases i with
      | zero =>
        simp only [List.getElem?_cons_zero, Option.some.injEq] at h
        subst h
        simp [journaledLength, tagLength, hm]
      | succ i =>
        have := ih i j (by simpa using h) (by omega)
        simp only [journaledLength, List.take_succ_cons, List.map_cons, List.sum_cons] at this ⊢
        omega

end Sys2Proof.Machine
end

