-- ==== Sys2Proof/Tests/Slice0.lean ====
section
/-! SUPPORT. The model's own tests: the smoke test of `WellFormed`, the numbers and codes the spec prints, small steps of commands,
and, for each statement with hypotheses, a state and operands that meet them (`test_meets_…`, one part for each clause). -/

open Sys2Proof Sys2Proof.Machine

namespace Sys2Proof.Tests

/-! ### Well-formedness -/

theorem test_wellFormed_wordWrite : (Instr.requestAccept (.wordWrite 0 [1, 2, 3] 0xF)).wellFormed = false := by decide
theorem test_wellFormed_granuleWrite :
    (Instr.requestAccept (.granuleWrite 0 (List.replicate 31 0))).wellFormed = false := by decide
theorem test_wellFormed_memoryAnswer : (Instr.memoryResponse (.okay [1, 2, 3])).wellFormed = false := by decide
theorem test_wellFormed_unknownCommand : (Instr.unknownCommand 0x20).wellFormed = false := by decide
theorem test_wellFormed_accepts :
    (Instr.requestAccept (.wordWrite 0 [1, 2, 3, 4] 0xF)).wellFormed = true ∧
      (Instr.requestAccept (.granuleWrite 0 (List.replicate 32 0))).wellFormed = true ∧
      (Instr.memoryResponse (.okay (List.replicate 32 0))).wellFormed = true ∧
      (Instr.unknownCommand 0x99).wellFormed = true := by decide

/-! ### Numbers and codes printed in the spec -/

/-- R189: the check value of the nine characters "123456789". -/
theorem test_crc : crc32 [0x31, 0x32, 0x33, 0x34, 0x35, 0x36, 0x37, 0x38, 0x39] = 0xCBF43926 := by decide +kernel

/-- R43: the capacity column of the table. -/
theorem test_capacity :
    (List.range 8).map (fun j => ringCapacity (BitVec.ofNat 3 j)) = [661, 1344, 2709, 5440, 10901, 21824, 43669, 87360] := by
  decide

/-- R36: epochs 1 to 9 take generations 1 to 7, 1, 2. -/
theorem test_generation : (List.range 9).map (fun e => generationOf (e + 1)) = [1, 2, 3, 4, 5, 6, 7, 1, 2] := by decide

/-- R190: command codes and arguments, least significant byte first, written out from the table. -/
theorem test_frames :
    frameCommand 0x01 [] = .getStatus ∧ frameCommand 0x04 [0x34, 0x12] = .setEventMask 0x1234 ∧
      frameCommand 0x08 [0x02, 0xE8, 0x03] = .setPolicy 2 1000 ∧
      frameCommand 0x10 [0x03, 0x00, 0x01, 0x00, 0x00, 0x20, 0x00, 0x00, 0x00, 0x01] = .stageWindow 3 256 32 1 ∧
      frameCommand 0x20 [] = .commit ∧ frameCommand 0x21 [0x05, 0x00, 0x00, 0x00] = .rollback 5 ∧
      frameCommand 0x30 [0xFF, 0xFF, 0xFF, 0xFF] = .setStamp 0xFFFFFFFF ∧ frameCommand 0x3F [] = .linkReset ∧
      frameCommand 0x00 [] = .unknownCommand 0 := by decide

/-- No row of the opcode table gives bits. -/
theorem test_decodeTableWord : decodeTableWord 8 0x20 = none := rfl

/-! ### Small states -/

def win (b n : Nat) (m : Mode) : Option Window := some { base := b, length := n, mode := m }

/-- Granules 8 to 11 JOURNALED, 16 and 17 FROZEN. -/
def table : WindowTable := [win 8 4 .journaled, win 16 2 .frozen, none, none, none, none, none, none]

def entry1 : DirEntry :=
  { number := 1, firstSlot := 0, slots := 1, preImages := 0, writes := 0, stamp := 0, broken := false }

def entry2 : DirEntry :=
  { number := 2, firstSlot := 1, slots := 1, preImages := 0, writes := 0, stamp := 0, broken := false }

def epoch3 : OpenEpoch :=
  { number := 3, firstSlot := 2, firstSeq := 2, preImages := 1, writes := 1, broken := false, generation := 3 }

/-- OPEN with two directory entries, epoch 3 open with granule 8 saved, the sweep for generation 4 done, nothing queued. -/
def opened : State :=
  { State.reset with
    jbase := 1
    windows := { committed := table, staged := table, stagedDiffers := false }
    tags := { store := { base := .zero, listed := [(0, 3)] }, activity := .idle, done := .gen 4 }
    anchor := { active := none, newest := some { slot := .slot0, seq := 5 }, format := 1 }
    jc := { State.reset.jc with
      state := .opened, epoch := some epoch3, tail := 0, head := 3, occupancy := 3, nextSeq := 3,
      directory := [entry1, entry2] } }

/-- `opened` in another controller state. -/
def inState (c : Ctl) : State := { opened with jc.state := c }

/-- A state with a queue. -/
def queued (q : List Entry) (s : State) : State := { s with front.queue := q }

def plainRead : Request := .wordRead 128
def saved : Request := .wordWrite 256 [1, 2, 3, 4] 0xF
def unsaved : Request := .granuleWrite 288 (List.replicate 32 7)
def frozenWrite : Request := .wordWrite 512 [1, 2, 3, 4] 0xF
def regionRead : Request := .granuleRead 4194304
def emptyWrite : Request := .wordWrite 256 [1, 2, 3, 4] 0
def waitingEntry (r : Request) : Entry := { req := r, marked := false }

/-- A state whose head performs its own transaction, which is in flight. -/
def performing (counts : Bool) (s : State) : State :=
  { queued [waitingEntry saved] s with
    front.phase := .performing counts, port.inFlight := some (.request, saved) }

/-- A state whose controller has the first transaction of a transfer in flight. -/
def working (o : Owner) (todo : List Request) (s : State) : State :=
  { s with jc.work := some { owner := o, todo := todo, got := [] }, port.inFlight := some (.controller, plainRead) }

/-- A state whose anchor update's last write is in flight. -/
def updating (r : Requester) (s : State) : State :=
  { working .update [plainRead] s with
    anchor.active := some { target := .slot1, seq := 6, image := s.image, requester := r } }

def copied : TableCopy := { table := table, differs := false }
def commitAt (step : CommitStep) : CommitCtx := { copy := copied, byCommand := true, dropped := false, step := step }
def rollbackAt (step : RollbackStep) : RollbackCtx :=
  { target := 2, openNumber := 3, cause := .command, start := 0, step := step }
def recoveryAt (step : RecoveryStep) : RecoveryCtx :=
  { intent := none, openNumber := 3, start := 0, found := none, dropped := false, step := step }
def info : CommitInfo := { preImages := 1, writes := 1, stamp := 0, broken := false, changed := false }
def walk2 : Walk := { slot := 2, left := 2, expected := 2 }
def lastEpoch : OpenEpoch := { epoch3 with number := 0xFFFFFFFF }
def brokenEpoch : OpenEpoch := { epoch3 with broken := true }
def markedEntry (r : Request) : Entry := { req := r, marked := true }
/-- A marked head in ROOM, whose reclaim or unguard update is being written and whose hold timer runs. -/
def givenUp (op : RoomOp) (c : Ctl) : State :=
  let r : Requester := match op with
    | .reclaim => .reclaim
    | .unguard => .unguard
  let s := updating r (queued [markedEntry unsaved] (inState c))
  { s with
    save := .room 9 1, jc.room := some op, stamp := 7, front.holdTimer := some 5, front.holdReason := some .room }
/-- Both lines one sample short of a qualified assertion, with the default qualify count 3. -/
def almost (s : State) : State :=
  { s with lines.ckpt := { asserted := false, run := 3 }, lines.fallback := { asserted := false, run := 3 } }

/-! ### Steps -/

/-- The state an outcome goes on to. -/
def after : Host.Outcome State Fault Refusal → Option State
  | .next t => some t
  | .fault _ => none
  | .refused _ => none

/-- A command that waits is taken by the next step. -/
theorem test_step_setStamp :
    after (step { opened with pending := [.setStamp 7] }) = some
      { opened with
        stamp := 7, link.csLow := true, link.pos := .turnaround, link.answer := some { result := .done, response := [] } } := by
  decide +kernel

theorem test_step_idle : after (step opened) = some opened := by decide +kernel

/-- A journaled write to a granule already saved goes straight to memory. -/
theorem test_accept_saved :
    after (exec (.requestAccept saved) opened) = some { performing true opened with port.lastGrant := .request } := by
  decide +kernel

/-- A journaled write to another granule is saved first. -/
theorem test_accept_unsaved :
    after (exec (.requestAccept unsaved) opened) = some
      { queued [waitingEntry unsaved] opened with
        save := .read 9 1
        port.inFlight := some (.request, .granuleRead 288)
        port.lastGrant := .request } := by decide +kernel

/-- A read of the journal region is refused with all ones and no event. -/
theorem test_accept_region :
    after (exec (.requestAccept regionRead) opened) = some
      { opened with front.responses := [{ status := .refused, data := List.replicate 32 0xFF }] } := by decide +kernel

/-- Power-up starts the anchor read. -/
theorem test_powerUp :
    (after (exec (.powerUp { jbase := 1, jsize := 0 } false false false 0) State.reset)).bind (fun t => t.port.inFlight) =
      some (.controller, .granuleRead 4194304) := by decide +kernel

/-- R163: the sample that completes a run qualifies the level and makes its request on the same event. -/
theorem test_sample_qualifies :
    (after (exec (.lineSamplingEvent true false) (almost { opened with lines.halt := true }))).map (fun t => t.lines) = some
      { ckpt := { asserted := true, run := 0 }, fallback := { asserted := false, run := 0 }, ckptLatch := true,
        fallbackLatch := false, halt := true } := by decide +kernel

/-- R173: a raise taken after the reset of its own event leaves its flag set. -/
theorem test_raise_after_reset :
    (after (exec (.prstAssert { jbase := 1, jsize := 0 } 0x080) { opened with events.flags := 0x001 })).map (fun t => t.events.flags) = some 0x080 := by
  decide +kernel

/-- R150: at the end of a recovery the waiting head's examination, its save's request for room included, comes before the offers: the
reclaim runs, and the CKPT request stays latched. -/
theorem test_room_asked_before_the_offer :
    (after (exec (.memoryResponse (.okay []))
      { updating .recovery (queued [waitingEntry unsaved] (inState (.recovering (recoveryAt (.anchor .undo))))) with
        jc.occupancy := 660, lines.ckptLatch := true, front.holdReason := some .recovering })).map
      (fun t => (t.name, t.jc.room, t.lines.ckptLatch, t.save)) = some (.opened, some .reclaim, true, .room 9 1) := by decide +kernel

/-- R86, R123: after a failed COMMIT record and after a failed intent the latched CKPT request is taken before the waiting write, for which
free is below 2, is handled: it is marked ahead of the new commit point, and its reclaim runs in COMMITTING. -/
theorem test_offer_before_the_waiting_write :
    ∀ s ∈ [working .commitRecord [plainRead] (inState (.committing (commitAt (.record info)))),
        updating .intent (inState (.rollingBack (rollbackAt .intent)))],
      (after (exec (.memoryResponse .error)
        { queued [waitingEntry unsaved] s with jc.occupancy := 660, lines.ckptLatch := true, front.holdReason := some .commitPoint })).map
        (fun t => (t.name, t.jc.room, t.lines.ckptLatch, t.mark, t.front.queue)) =
          some (.committing, some .reclaim, false, false, [markedEntry unsaved]) := by decide +kernel

/-- R161: after a lone grant of the request path the first two claims raised on one event are granted request path first; a claim
of the controller that waited behind it is granted by the alternation (R158, log 14). -/
theorem test_first_meeting_after_a_lone_grant :
    let s := { opened with port.reqClaim := some saved, port.ctlClaim := some plainRead, port.lastGrant := .request }
    (s.arbitrate false).port.inFlight = some (.request, saved) ∧ (s.arbitrate false).port.met = true ∧
      (s.arbitrate true).port.inFlight = some (.controller, plainRead) ∧ (s.arbitrate true).port.met = false := by decide

/-- R7: the classes at the edges of the region and of two windows. -/
theorem test_classes_at_the_edges :
    [131071, 131072, 132095, 132096, 7, 8, 11, 12, 15, 16, 17, 18].map (classOf 1 0 table) =
      [.plain, .journalRegion, .journalRegion, .plain, .plain, .journaled, .journaled, .plain, .plain, .frozen, .frozen, .plain] := by
  decide +kernel

/-- R20: tag entries at the edges of two JOURNALED windows with a FROZEN one between their slots. -/
theorem test_tag_entries : [8, 11, 32, 33].map (tagEntry [win 8 4 .journaled, win 16 2 .frozen, win 32 2 .journaled]) = [0, 3, 4, 5] := by
  decide

/-- R51, R144: with an intent and a COMMIT record found, the walk starts at the record's slot and takes in the target's first. -/
theorem test_redo_over_a_found_commit :
    (opened.replayWalk 2 1) = { slot := 2, left := 3, expected := 2 } ∧ (opened.truncate 2 1).jc.occupancy = 0 ∧
      (opened.truncate 2 1).jc.head = 1 := by decide +kernel

/-! ### The hypotheses of the statements can be met -/

theorem test_meets_StepRunsTheFrontCommand : opened.pending = [] := rfl

theorem test_meets_PowerUpAndWithdrawalBeginTheAnchorRead :
    let s := { State.reset with inReset := true }
    s.jc.state = .anchorRead ∧ s.jc.work = none ∧ s.front.phase = .waiting ∧ s.save = .idle ∧ s.port.reqClaim = none ∧
      s.port.ctlClaim = none ∧ s.port.inFlight = none := by decide

theorem test_meets_ResetEmptiesAndHoldsThePart : ({ State.reset with inReset := true } : State).inReset = true := rfl

/-- Clause 1 at a queue of 3 and at a full one, both settled behind a head in progress; clause 2; clause 3 plain and frozen; a request
kept presented beside queues of 3 and 4, with no step of the head; a state with no step left. -/
theorem test_meets_ARequestIsAcceptedAndPerformed :
    (∀ n ∈ [3, 4],
       let s := { queued (List.replicate n (waitingEntry saved)) (performing true opened) with front.presented := [plainRead] }
       s.front.presented = plainRead :: [] ∧ s.headStep = none ∧ s.front.queue.length = n) ∧
    opened.internalStep = none ∧
    (let s := performing true opened
     ∀ q ∈ [[waitingEntry saved, waitingEntry saved, waitingEntry saved],
        [waitingEntry saved, waitingEntry saved, waitingEntry saved, waitingEntry saved]],
       let s := queued q s
       s.inReset = false ∧ s.settled = true ∧ s.front.queue ≠ [] ∧ s.front.presented = []) ∧
    (opened.inReset = false ∧ opened.settled = true ∧ opened.front.queue = [] ∧ opened.front.presented = [] ∧
      opened.front.phase = .waiting ∧ opened.save = .idle ∧ opened.lines.halt = false ∧ opened.name ≠ .anchorRead ∧
      opened.name ≠ .committing ∧ opened.port.inFlight = none) ∧
    (plainRead.emptyMask = false ∧ classOf 1 0 table plainRead.granule = .plain ∧
      classOf 1 0 table 16 = .frozen ∧ (Request.wordRead 512).granule = 16 ∧ (Request.wordRead 512).isWrite = false) := by
  decide +kernel

/-- Each class, and each state that the table names; a head that is performed, counted and not; one answered DAMAGED; one that waits
for an unguard's update in UNGUARDED. -/
theorem test_meets_RequestsByClassAndState :
    (∀ x ∈ [(inState .unguarded, saved, HeadAction.perform true), (opened, plainRead, .perform false),
        (inState (.damaged .scan), saved, .answer .damaged false),
        ({ inState .unguarded with jc.room := some .unguard }, saved, .wait .room)],
      let s := queued [waitingEntry x.2.1] x.1
      s.front.queue = [waitingEntry x.2.1] ∧ s.inProgress = false ∧ s.save = .idle ∧ s.lines.halt = false ∧
        s.headAction (waitingEntry x.2.1) = x.2.2) ∧
    opened.lines.halt = false ∧ saved.emptyMask = false ∧ State.reset.name = .anchorRead ∧
      (inState (.committing (commitAt .drain))).name = .committing ∧
      classOf 1 0 table regionRead.granule = .journalRegion ∧ classOf 1 0 table plainRead.granule = .plain ∧
      classOf 1 0 table frozenWrite.granule = .frozen ∧ classOf 1 0 table saved.granule = .journaled ∧
      (inState (.recovering (recoveryAt (.tagWait .undo)))).name = .recovering ∧
      (inState (.rollingBack (rollbackAt .drain))).name = .rollingBack ∧ (inState (.damaged .scan)).name = .damaged ∧
      (∃ w, win 8 4 .journaled = some w ∧ table[0]? = some (some w) ∧ w.base ≤ 11 ∧ 11 < w.base + w.length) ∧
      (inState .unguarded).name = .unguarded ∧ opened.name = .opened ∧
      (inState (.discarding { fromUnguarded := false, count := 1, newTail := 1, freed := 1 })).name = .discarding ∧
      (inState (.clearing { copy := copied, step := .headWait })).name = .clearing ∧
      (inState (.formatting { cameFrom := .opened, copy := copied, number := 2, step := .headWait })).name = .formatting := by
  decide +kernel

theorem test_meets_RefusedRequests :
    (∀ e ∈ [waitingEntry regionRead, waitingEntry frozenWrite],
      let s := queued [e] opened
      s.front.queue = e :: [] ∧ s.inProgress = false ∧ s.save = .idle ∧ s.lines.halt = false ∧ e.req.emptyMask = false ∧
        s.name ≠ .anchorRead ∧ s.name ≠ .committing ∧
        (classOf s.jbase s.jsize s.windows.committed e.req.granule = .journalRegion ∨
          classOf s.jbase s.jsize s.windows.committed e.req.granule = .frozen ∧ e.req.isWrite = true)) := by decide +kernel

theorem test_meets_EmptyMaskWritesAreAnsweredAtOnce :
    let s := queued [waitingEntry emptyWrite] opened
    s.front.queue = [waitingEntry emptyWrite] ∧ s.inProgress = false ∧ s.save = .idle ∧ emptyWrite.emptyMask = true := by decide

/-- The three clauses: a saved granule, an unsaved one with free at its limit 2, and with free 1, in OPEN and in DISCARDING; the last
granules of two windows that share none. -/
theorem test_meets_AWriteGoesToTheSaveUnit :
    let s := queued [waitingEntry saved] opened
    let u := queued [waitingEntry unsaved] { opened with jc.occupancy := 659 }
    let v := queued [waitingEntry unsaved] { opened with jc.occupancy := 660 }
    (s.headAction (waitingEntry saved) = .save ∧ s.tags.store.read (tagEntry table 8) = s.openGeneration ∧ s.inProgress = false ∧
      s.save = .idle ∧ s.lines.halt = false) ∧
    (u.headAction (waitingEntry unsaved) = .save ∧ u.tags.store.read (tagEntry table 9) ≠ u.openGeneration ∧ 2 ≤ u.free) ∧
    (v.headAction (waitingEntry unsaved) = .save ∧ v.tags.store.read (tagEntry table 9) ≠ v.openGeneration ∧ v.free < 2 ∧
      v.name ≠ .discarding) ∧
    (let d := { v with jc.state := .discarding { fromUnguarded := false, count := 1, newTail := 1, freed := 1 } }
     d.headAction (waitingEntry unsaved) = .save ∧ d.free < 2 ∧ d.name = .discarding) ∧
    (let x : Window := { base := 8, length := 4, mode := .journaled }
     let y : Window := { base := 32, length := 2, mode := .journaled }
     let t : WindowTable := [some x, none, some y]
     t[0]? = some (some x) ∧ x.base ≤ 11 ∧ 11 < x.base + x.length ∧ t[2]? = some (some y) ∧ y.base ≤ 33 ∧ 33 < y.base + y.length ∧
       x.base + x.length ≤ y.base) := by
  decide +kernel

theorem test_meets_TheHoldTimerStartsAndExpires :
    (let s := queued [waitingEntry saved] State.reset
     s.front.queue = [waitingEntry saved] ∧ s.inProgress = false ∧ s.save = .idle ∧ s.lines.halt = false ∧
       s.headAction (waitingEntry saved) = .wait .anchorRead ∧ s.front.holdReason ≠ some .anchorRead) ∧
    (let s := { queued [waitingEntry saved] State.reset with front.holdTimer := some 5 }
     s.inReset = false ∧ s.front.holdTimer.isSome = true ∧ s.inProgress = false) ∧
    (opened.inReset = false ∧ opened.holdRunning = false) := by decide +kernel

theorem test_meets_MemoryAnswersTheHead :
    let s := performing true opened
    s.inReset = false ∧ s.port.inFlight = some (.request, saved) ∧ s.front.queue = [waitingEntry saved] ∧
      s.front.phase = .performing true ∧ s.save = .idle ∧ s.inProgress = true := by decide

theorem test_meets_ASaveWritesItsRecordThenReleasesTheWrite :
    (let s := { queued [waitingEntry unsaved] opened with
        save := .read 9 1, port.inFlight := some (.request, .granuleRead 288) }
     s.inReset = false ∧ s.port.inFlight = some (.request, .granuleRead 288) ∧ s.save = .read 9 1) ∧
    (∀ left ∈ [[plainRead], []],
      let s := { queued [waitingEntry unsaved] opened with
        save := .record 9 1 [] [] left, port.inFlight := some (.request, saved) }
      s.inReset = false ∧ s.front.queue = [waitingEntry unsaved] ∧ s.save = .record 9 1 [] [] left) := by decide

/-- Responses of both claimants, the controller's with a head in progress; each grant, the first meeting among them. -/
theorem test_meets_ThePortServesItsClaimants :
    (opened.inReset = false ∧ opened.port.inFlight = none) ∧ (performing true opened).port.inFlight = some (.request, saved) ∧
    (let s := { performing true opened with port.inFlight := some (.controller, plainRead) }
     s.port.inFlight = some (.controller, plainRead) ∧ s.inProgress = true ∧ s.save = .idle) ∧
    (∀ g ∈ [Claimant.controller, Claimant.request],
      let s := { opened with port.reqClaim := some saved, port.ctlClaim := some plainRead, port.lastGrant := g }
      s.port.inFlight = none ∧ s.port.reqClaim = some saved ∧ s.port.ctlClaim = some plainRead ∧ s.port.lastGrant = g ∧
        s.port.met = false) ∧
    ({ opened with port.reqClaim := some saved, port.ctlClaim := some plainRead, port.met := true } : State).port.met = true ∧
    (let s := { opened with port.reqClaim := some saved }
     s.port.reqClaim = some saved ∧ s.port.ctlClaim = none ∧ s.port.inFlight = none) ∧
    (let s := { opened with port.ctlClaim := some saved }
     s.port.reqClaim = none ∧ s.port.ctlClaim = some saved ∧ s.port.inFlight = none) ∧
    (let s := working .update [plainRead, regionRead] opened
     s.inReset = false ∧ s.port.inFlight = some (.controller, plainRead) ∧
       s.jc.work = some { owner := .update, todo := plainRead :: regionRead :: [], got := [] }) ∧
    (let s := { working .update [plainRead] opened with port.inFlight := some (.request, saved) }
     s.lines.halt = false ∧ s.port.ctlClaim = none ∧ (∀ r, s.port.inFlight ≠ some (.controller, r)) ∧
       s.jc.work = some { owner := .update, todo := [plainRead], got := [] }) := by
  refine ⟨?_, ?_, ?_, ?_, ?_, ?_, ?_, ?_, ?_, ?_, ?_, ?_⟩
  on_goal 11 => intro r h; injection h with h; injection h with h; contradiction
  all_goals decide

theorem test_meets_LongCommandsAreRefusedInOrder :
    opened.linkReady = true ∧ (inState .unformatted).name = .unformatted ∧
    (let s := { opened with jc.room := some .reclaim }
     s.name = .opened ∧ s.mark = true) ∧
    (inState (.committing (commitAt .drain))).name = .committing ∧ (inState (.damaged .exhausted)).jc.state = .damaged .exhausted ∧
    (inState .unguarded).name = .unguarded ∧ (opened.name = .opened ∧ opened.mark = false ∧ opened.listed 4 = false) ∧
    (let s := { opened with jc.directory := [entry1, { entry2 with broken := true }], lines.halt := true }
     s.name = .opened ∧ s.mark = false ∧ s.listed 2 = true ∧ (∃ d ∈ s.jc.directory, (2 : Word) ≤ d.number ∧ d.broken = true)) ∧
    (let s := { opened with lines.halt := true }
     s.listed 3 = true ∧ (∀ d ∈ s.jc.directory, (3 : Word) ≤ d.number → d.broken = false) ∧ s.lines.halt = true) ∧
    (opened.lines.halt = false ∧ ∀ d ∈ opened.jc.directory, (0 : Word) < d.number) ∧
    (let s := { inState (.damaged .scan) with lines.halt := true }
     s.name = .damaged ∧ s.jc.state ≠ .damaged .exhausted ∧ s.lines.halt = true) := by decide +kernel

theorem test_meets_CommitAndRollbackAreTaken :
    opened.linkReady = true ∧ opened.name = .opened ∧ opened.mark = false ∧ opened.lines.halt = false ∧
      opened.jc.epoch = some epoch3 ∧ epoch3.number = 3 ∧ (∃ d ∈ opened.jc.directory, d.number = 2) ∧
      (∀ d ∈ opened.jc.directory, (2 : Word) ≤ d.number → d.broken = false) := by decide

theorem test_meets_DiscardFormatAndClearingAreTaken :
    opened.linkReady = true ∧ opened.lines.halt = false ∧ (∃ d ∈ opened.jc.directory, d.number ≤ (1 : Word)) ∧
      opened.jc.epoch = some epoch3 ∧ opened.name = .opened ∧ opened.mark = false ∧
      (inState .unformatted).name = .unformatted ∧ (inState (.damaged .scan)).jc.state = .damaged .scan ∧
      (inState (.damaged .scan)).linkReady = true ∧ Cause.scan ≠ .exhausted ∧ opened.jc.room = none ∧ opened.jc.work = none ∧
      (let s := updating .unguard { inState .unguarded with jc.room := some .unguard }
       s.name = .unguarded ∧ s.jc.room ≠ none ∧ s.jc.work ≠ none) := by decide

theorem test_meets_TheCommitRecordIsBuiltAndCloses :
    (commitAt .drain).step = .drain ∧ opened.jc.epoch = some epoch3 ∧ (∀ q ∈ opened.front.queue, q.marked = false) ∧
      opened.jc.room = none ∧ opened.jc.work = none ∧ (commitAt (.record info)).step = .record info ∧
      (∃ q ∈ (queued [markedEntry unsaved] opened).front.queue, q.marked = true) ∧ (givenUp .reclaim (.committing (commitAt .drain))).jc.room ≠ none ∧
    (let c := commitAt (.record info)
     let s := working .commitRecord [plainRead] { inState (.committing c) with jc.occupancy := 659 }
     s.inReset = false ∧ s.port.inFlight = some (.controller, plainRead) ∧ s.jc.state = .committing c ∧ c.step = .record info ∧
       s.jc.work = some { owner := .commitRecord, todo := [plainRead], got := [] } ∧ s.jc.epoch = some epoch3 ∧
       s.jc.directory.length < 15 ∧ s.jc.occupancy + 1 < s.capacity) ∧
    (∀ ds ∈ [List.replicate 15 entry1, [entry1], []],
      let c := commitAt (.record info)
      let s := working .commitRecord [plainRead] { inState (.committing c) with jc.directory := ds, jc.occupancy := 660 }
      s.jc.directory.length ≤ 15 ∧ s.jc.occupancy + 1 ≤ s.capacity ∧ s.jc.occupancy + 1 = s.capacity ∧
        ∀ x ∈ s.jc.directory ++ [entry2], 1 ≤ x.slots) ∧
    (let s := { opened with jc.directory := List.replicate 15 entry1, jc.occupancy := 15 }
     s.jc.directory.length = 15 ∧ s.jc.occupancy ≤ s.capacity ∧ s.closeDrops entry2 = true ∧
       opened.closeDrops entry2 = false) := by decide +kernel

theorem test_meets_AFailedCommitRecordLeavesTheEpochOpen :
    let c := commitAt (.record info)
    let s := working .commitRecord [plainRead] (inState (.committing c))
    s.inReset = false ∧ s.port.inFlight = some (.controller, plainRead) ∧ s.jc.state = .committing c ∧
      s.jc.work = some { owner := .commitRecord, todo := [plainRead], got := [] } ∧ s.jc.epoch = some epoch3 := by decide

theorem test_meets_TheCommitOpensTheNextEpoch :
    let c := commitAt .tagWait
    let s := inState (.committing c)
    c.step = .tagWait ∧ s.jc.epoch = some epoch3 ∧ s.tags.done = .gen (generationOf (epoch3.number.toNat + 1)) ∧
      epoch3.number ≠ 0xFFFFFFFF ∧
      (let u := { s with tags.done := .absent }
       ¬(u.tags.done = .all ∨ u.tags.done = .gen (generationOf (epoch3.number.toNat + 1)))) ∧
      (let v := { s with jc.epoch := some lastEpoch, tags.done := .all }
       v.jc.epoch = some lastEpoch ∧ lastEpoch.number = 0xFFFFFFFF ∧ v.tags.done = .all ∧ v.jc.state = .committing c) := by
  decide

theorem test_meets_TheCommitCompletes :
    let c := commitAt .anchor
    let s := updating .commit (inState (.committing c))
    s.inReset = false ∧ s.port.inFlight = some (.controller, plainRead) ∧
      s.jc.work = some { owner := .update, todo := [plainRead], got := [] } ∧
      (s.anchor.active.map AnchorWrite.requester) = some .commit ∧ s.jc.state = .committing c ∧ s.jc.epoch = some epoch3 := by
  decide

theorem test_meets_AnAnchorUpdateAlternates :
    opened.anchor.newest = some { slot := .slot0, seq := 5 } ∧ opened.jc.epoch = some epoch3 := by decide

/-- A reclaim, an operation of each kind with its command, and an intent. -/
theorem test_meets_AFailedUpdateDamagesOrReturns :
    (let s := updating .reclaim opened
     s.inReset = false ∧ s.port.inFlight = some (.controller, plainRead) ∧
       s.jc.work = some { owner := .update, todo := [plainRead], got := [] } ∧
       (s.anchor.active.map AnchorWrite.requester) = some .reclaim ∧ s.name = .opened) ∧
    ((commitAt .anchor).byCommand = true ∧ (rollbackAt .anchor).cause = .command ∧
      (inState (.discarding { fromUnguarded := false, count := 1, newTail := 1, freed := 1 })).name = .discarding ∧
      (inState (.clearing { copy := copied, step := .anchor })).name = .clearing ∧ (inState .unguarded).name = .unguarded ∧
      (inState (.formatting { cameFrom := .unguarded, copy := copied, number := 2, step := .headWait })).name = .formatting) ∧
    (let s := updating .intent (inState (.rollingBack (rollbackAt .intent)))
     s.inReset = false ∧ (s.anchor.active.map AnchorWrite.requester) = some .intent ∧
       s.jc.state = .rollingBack (rollbackAt .intent)) := by decide

/-- A head in ROOM: with free at 2 again, with the update running, in DISCARDING, FORMATTING and DAMAGED. Reclaim and unguard, free at
1; the unguard for want of an entry, by the policy, and by a rollback's target. -/
theorem test_meets_ASaveAsksForRoom :
    (let s := { queued [waitingEntry unsaved] opened with save := .room 9 1, jc.occupancy := 659 }
     s.front.queue = [waitingEntry unsaved] ∧ s.inProgress = false ∧ s.lines.halt = false ∧ s.save = .room 9 1 ∧ s.name = .opened ∧
       s.jc.room = none ∧ 2 ≤ s.free ∧ ({ s with jc.room := some .reclaim } : State).jc.room ≠ none) ∧
    (inState (.discarding { fromUnguarded := false, count := 1, newTail := 1, freed := 1 })).name = .discarding ∧
    (∀ k ∈ [Ctl.damaged .anchor, .formatting { cameFrom := .opened, copy := copied, number := 2, step := .headWait }],
      (inState k).name ≠ .opened ∧ (inState k).name ≠ .committing ∧ (inState k).name ≠ .rollingBack ∧
        (inState k).name ≠ .discarding) ∧
    (let s := { opened with jc.occupancy := 660 }
     s.name = .opened ∧ s.jc.room = none ∧ s.free < 2 ∧ s.jc.directory = entry1 :: [entry2] ∧ s.link.policies.reclaim = true) ∧
    ({ opened with jc.directory := [] } : State).jc.directory = [] ∧
    ({ opened with link.policies.reclaim := false } : State).link.policies.reclaim = false ∧
    (let c := { rollbackAt .drain with target := 1 }
     let s := inState (.rollingBack c)
     s.jc.directory = entry1 :: [entry2] ∧ s.jc.state = .rollingBack c ∧ c.target ≤ entry1.number) := by decide

/-- A reclaim that ends, with free at 2 or the save given up; one that goes on with free at 1, to the next entry, to an unguard for
want of one and for a rollback's target; an unguard in OPEN and in a commit, with its write and without. -/
theorem test_meets_RoomIsMade :
    (let s := updating .reclaim { opened with jc.occupancy := 659 }
     s.inReset = false ∧ s.jc.work = some { owner := .update, todo := [plainRead], got := [] } ∧
       (s.anchor.active.map AnchorWrite.requester) = some .reclaim ∧ 2 ≤ s.free ∧ s.save = .idle) ∧
    (let s := updating .reclaim { queued [waitingEntry unsaved] opened with save := .room 9 1, jc.occupancy := 660 }
     s.save = .room 9 1 ∧ s.free < 2 ∧ s.jc.directory = entry1 :: [entry2] ∧ s.jc.state = .opened ∧
       ({ s with jc.directory := [] } : State).jc.directory = []) ∧
    (let c := { rollbackAt .drain with target := 1 }
     (inState (.rollingBack c)).jc.state = .rollingBack c ∧ c.target ≤ entry1.number ∧
       entry1.number < (rollbackAt .drain).target) ∧
    (∀ k ∈ [Ctl.opened, .committing (commitAt .drain)],
      let s := updating .unguard { queued [waitingEntry unsaved] (inState k) with save := .room 9 1 }
      s.inReset = false ∧ (s.anchor.active.map AnchorWrite.requester) = some .unguard ∧ s.jc.state = k ∧
        s.save = .room 9 1 ∧ s.front.queue = [waitingEntry unsaved]) ∧
    (updating .unguard opened).save = .idle := by decide

theorem test_meets_TheIntentAndTheReplayBegin :
    (let c := rollbackAt .drain
     let s := inState (.rollingBack c)
     s.jc.state = .rollingBack c ∧ c.step = .drain ∧ (∀ q ∈ s.front.queue, q.marked = false) ∧ s.jc.room = none ∧
       s.openBroken = false ∧ ({ s with jc.epoch := some brokenEpoch } : State).openBroken = true ∧
       ({ s with jc.room := some .reclaim } : State).jc.room = some .reclaim ∧
       ({ s with jc.room := some .unguard } : State).jc.room ≠ some .reclaim ∧
       (∃ q ∈ (queued [markedEntry unsaved] s).front.queue, q.marked = true)) ∧
    (let c := rollbackAt .intent
     let s := updating .intent (inState (.rollingBack c))
     s.inReset = false ∧ s.port.inFlight = some (.controller, plainRead) ∧
       s.jc.work = some { owner := .update, todo := [plainRead], got := [] } ∧
       (s.anchor.active.map AnchorWrite.requester) = some .intent ∧ s.jc.state = .rollingBack c) := by decide

/-- R83, HOLD_EXPIRY: the last marked request is given up while its reclaim's update is still being written: on that event the COMMIT
record is built, with the stamp of that event, and the update runs on. -/
theorem test_record_built_on_hold_expiry :
    (after (exec .holdExpiry (givenUp .reclaim (.committing (commitAt .drain))))).map
        (fun t => (t.jc.state, t.jc.work.map Work.owner)) =
      some (.committing (commitAt (.record { info with stamp := 7 })), some .update) := by decide +kernel

/-- The update's last write is answered OKAY: the record built before is written, with the stamp it was built with. -/
theorem test_record_written_after_the_update :
    (after (exec (.memoryResponse (.okay []))
        { updating .reclaim (inState (.committing (commitAt (.record { info with stamp := 7 })))) with
          stamp := 9, jc.room := some .reclaim })).map
        (fun t => (t.jc.state, t.jc.work.map Work.owner, t.jc.room)) =
      some (.committing (commitAt (.record { info with stamp := 7 })), some .commitRecord, none) := by decide +kernel

/-- R121, HOLD_EXPIRY: the last marked request is given up while its unguard's update is still being written: on that event the
rollback is abandoned, and the update runs on. -/
theorem test_abandoned_on_hold_expiry :
    (after (exec .holdExpiry { givenUp .unguard (.rollingBack (rollbackAt .drain)) with jc.epoch := some brokenEpoch })).map
        (fun t => (t.jc.state, t.jc.work.map Work.owner, t.link.lastResult)) =
      some (.unguarded, some .update, .notSafe) := by decide +kernel

def walking : State := inState (.rollingBack (rollbackAt (.replay walk2)))
def savedRecord : Record := { format := 1, epoch := 3, seq := 2, body := .preImage 8 (List.replicate 32 9) }
def commitRecord : Record := { format := 1, epoch := 2, seq := 2, body := .commit info }

theorem test_meets_TheReplayTreatsItsRecords :
    walking.jc.state.walk = some walk2 ∧
    validRecord walk2.slot walking.anchor.format walk2.expected walking.jc.state.replayTarget.1 walking.jc.state.replayTarget.2
      (savedRecord.encode 2) = some savedRecord ∧
    validRecord walk2.slot walking.anchor.format walk2.expected walking.jc.state.replayTarget.1 walking.jc.state.replayTarget.2
      (commitRecord.encode 2) = some commitRecord ∧ 1 < walk2.left ∧
    (inState (.rollingBack (rollbackAt (.replay { walk2 with left := 1 })))).jc.state.walk = some { walk2 with left := 1 } ∧
    (∀ o ∈ [Owner.replayRead, .replayWrite],
      let s := working o [plainRead] walking
      s.inReset = false ∧ s.port.inFlight = some (.controller, plainRead) ∧
        s.jc.work = some { owner := o, todo := [plainRead], got := [] } ∧ s.jc.state.walk = some walk2) := by
  decide +kernel

theorem test_meets_FailedReadsOfReplayAndScanDamage :
    (walking.jc.state = .rollingBack (rollbackAt (.replay walk2)) ∧ (rollbackAt (.replay walk2)).cause = .command ∧
      ({ rollbackAt (.replay walk2) with cause := .fallbackLine }).cause ≠ .command ∧
      (inState (.recovering (recoveryAt (.replay .undo walk2)))).name = .recovering) ∧
    validRecord walk2.slot walking.anchor.format walk2.expected walking.jc.state.replayTarget.1 walking.jc.state.replayTarget.2
      (List.replicate 48 0xFF) = none ∧
    (∀ o ∈ [Owner.replayRead, Owner.replayWrite],
      let s := working o [plainRead] walking
      s.inReset = false ∧ s.port.inFlight = some (.controller, plainRead) ∧
        s.jc.work = some { owner := o, todo := [plainRead], got := [] }) ∧
    (let c := recoveryAt (.scan 1 3)
     let s := working .scan [plainRead] (inState (.recovering c))
     s.inReset = false ∧ s.jc.state = .recovering c ∧ c.step = .scan 1 3 ∧ s.jc.epoch = some epoch3) := by decide +kernel

theorem test_meets_TheRollbackTruncatesAndCompletes :
    (let c := rollbackAt (.replay { walk2 with left := 0 })
     c.step = .replay { walk2 with left := 0 } ∧ opened.jc.directory.find? (fun x => x.number = c.target) = some entry2 ∧
       opened.jc.epoch = some epoch3 ∧ ∀ d ∈ [entry1], d.number ≠ c.target) ∧
    (let c := rollbackAt .tagWait
     let s := { inState (.rollingBack c) with tags.done := .all }
     s.jc.state = .rollingBack c ∧ c.step = .tagWait ∧ c.openNumber ≠ 0xFFFFFFFF ∧ s.tags.done = .all ∧
       ¬(State.reset.tags.done = .all ∨ State.reset.tags.done = .gen (generationOf (c.openNumber.toNat + 1))) ∧
       ({ c with openNumber := 0xFFFFFFFF } : RollbackCtx).openNumber = 0xFFFFFFFF) ∧
    (let c := rollbackAt .anchor
     let s := updating .completion (inState (.rollingBack c))
     s.inReset = false ∧ (s.anchor.active.map AnchorWrite.requester) = some .completion ∧ s.jc.state = .rollingBack c ∧
       s.jc.epoch = some epoch3) := by decide +kernel

/-- Sequences one apart with the wrap, equal, and further apart each way. -/
theorem test_meets_TheNewestOfTwo :
    let a := fun q : Word => { opened.image with seq := q }
    ((a 0).seq = (a 0xFFFFFFFF).seq + 1) ∧ ((a 4).seq = (a 4).seq) ∧
      ((a 9).seq ≠ (a 4).seq + 1 ∧ (a 4).seq ≠ (a 9).seq + 1 ∧ (a 4).seq < (a 9).seq) := by decide

def anchorImage : Anchor := { opened.image with seq := 5 }

theorem test_meets_TheAnchorReadChoosesTheNewest :
    (let s := working .anchorRead [.granuleRead 0] { State.reset with jbase := 1 }
     s.inReset = false ∧ s.port.inFlight = some (.controller, plainRead) ∧ s.jc.state = .anchorRead ∧
       s.jc.work = some { owner := .anchorRead, todo := [.granuleRead 0], got := [] }) ∧
    (let b := anchorImage.encode .slot0
     b.length = 512 ∧ leWord (fieldAt 508 4 b) = crc32 (b.take 508 ++ leBytes 4 AnchorSlot.slot0.number) ∧
       leWord (fieldAt 508 4 b) ≠ crc32 (b.take 508 ++ leBytes 4 AnchorSlot.slot1.number) ∧
       b.getD 6 0 = (0 : BitVec 3).setWidth 8 ∧ b.getD 6 0 ≠ (1 : BitVec 3).setWidth 8 ∧
       b.getD 397 0 = (1 : BitVec 4).setWidth 8 ∧ b.getD 397 0 ≠ (2 : BitVec 4).setWidth 8 ∧ fieldAt 4 2 b ≠ [0, 0] ∧
       (b.getD 7 0).toNat ≤ 15) ∧
    fieldAt 4 2 (List.replicate 8 0) = [0, 0] ∧ 15 < ((List.replicate 8 (0x10 : Byte)).getD 7 0).toNat ∧
    validAnchor .slot0 1 0 (List.replicate 512 0xFF) = none ∧
    newestAnchor (validAnchor .slot0 1 0 (anchorImage.encode .slot0)) (validAnchor .slot1 1 0 (List.replicate 512 0)) =
      some (.slot0, anchorImage) := by decide +kernel

theorem test_meets_AnchorReadAndFormatRetry :
    ∀ o ∈ [Owner.anchorRead, .scrub, .invalidate0, .invalidate1, .slot0],
      let s := working o [plainRead] opened
      s.inReset = false ∧ s.port.inFlight = some (.controller, plainRead) ∧
        s.jc.work = some { owner := o, todo := [plainRead], got := [] } := by decide

/-- A record of each kind valid at the ends of its range of epochs, and one that fails each test; the last read of a record; a
pre-image with room behind it and the one that reaches capacity; no record; a COMMIT record. -/
theorem test_meets_TheScanWalks :
    (let b := savedRecord.encode 2
     leWord (fieldAt 12 4 b) = recordCheck (fieldAt 0 3 b) 2 (fieldAt 6 6 b) (fieldAt 16 32 b) 2 ∧
       leNat (fieldAt 0 3 b) / 2097152 = 1 ∧ leNat (fieldAt 0 3 (commitRecord.encode 2)) / 2097152 = 2 ∧
       leHalf (fieldAt 6 2 b) = 1 ∧ leNat (fieldAt 3 3 b) = 2 ∧ leWord (fieldAt 8 4 b) = 3 ∧
       validRecord 2 1 2 3 5 b = some savedRecord ∧ validRecord 2 1 2 1 3 b = some savedRecord ∧ validRecord 3 1 2 3 3 b = none ∧
       validRecord 2 2 2 3 3 b = none ∧ validRecord 2 1 3 3 3 b = none ∧ validRecord 2 1 2 4 5 b = none ∧
       validRecord 2 1 2 1 2 b = none ∧ leNat (fieldAt 0 3 (List.replicate 48 0xFF)) / 2097152 = 7) ∧
    (let c := recoveryAt (.scan 0 2)
     let s := working .scan [plainRead] (inState (.recovering c))
     s.inReset = false ∧ s.port.inFlight = some (.controller, plainRead) ∧
       s.jc.work = some { owner := .scan, todo := [plainRead], got := [] } ∧ s.jc.state = .recovering c ∧ c.step = .scan 0 2) ∧
    (let s := { opened with jc.directory := [{ entry1 with slots := 660 }] }
     s.capacity ≤ (s.jc.directory.map DirEntry.slots).sum + (0 + 1)) ∧
    opened.jc.epoch = some epoch3 ∧
    validRecord 2 1 (epoch3.firstSeq + BitVec.ofNat 32 0) 3 3 (savedRecord.encode 2) = some savedRecord ∧
    (opened.jc.directory.map DirEntry.slots).sum + (0 + 1) < opened.capacity ∧
    validRecord 2 1 (epoch3.firstSeq + BitVec.ofNat 32 0) 3 3 (List.replicate 48 0) = none ∧
    validRecord 2 1 (epoch3.firstSeq + BitVec.ofNat 32 0) 3 3 ({ commitRecord with epoch := 3 }.encode 2) =
      some { commitRecord with epoch := 3 } := by decide +kernel

theorem test_meets_RecoveryTakesItsCourseAndCompletes :
    (opened.jc.epoch = some epoch3 ∧ ({ recoveryAt (.scan 1 3) with intent := some 2 }).intent = some 2 ∧
      brokenEpoch.broken = true ∧ (recoveryAt (.scan 1 3)).found = none ∧
      ({ recoveryAt (.scan 1 3) with found := some info }).found = some info ∧ (recoveryAt (.scan 1 3)).intent = none ∧
      epoch3.broken = false) ∧
    (let s := inState (.recovering { recoveryAt (.replay .redo { walk2 with left := 0 }) with intent := some 2 })
     s.jc.epoch = some epoch3 ∧ s.jc.directory.find? (fun x => x.number = 2) = some entry2 ∧ ∀ d ∈ [entry1], d.number ≠ 2) ∧
    (let c := recoveryAt (.tagWait .undo)
     let s := { inState (.recovering c) with tags.done := .all }
     s.jc.state = .recovering c ∧ c.step = .tagWait .undo ∧ s.tags.done = .all ∧ opened.tags.done ≠ .all ∧
       c.openNumber ≠ 0xFFFFFFFF ∧ ({ c with openNumber := 0xFFFFFFFF } : RecoveryCtx).openNumber = 0xFFFFFFFF) ∧
    (∀ k ∈ [Course.redo, .broken, .forward, .undo],
      let c := recoveryAt (.anchor k)
      let s := updating .recovery (inState (.recovering c))
      s.inReset = false ∧ s.jc.work = some { owner := .update, todo := [plainRead], got := [] } ∧
        (s.anchor.active.map AnchorWrite.requester) = some .recovery ∧ s.jc.state = .recovering c ∧ c.step = .anchor k ∧
        s.jc.epoch = some epoch3) := by decide +kernel

def formatAt (from_ : CtlName) (step : FormatStep) : FormatCtx := { cameFrom := from_, copy := copied, number := 2, step := step }

/-- Each step; the scrub of the last slot but one and of the last. -/
theorem test_meets_AFormatWritesSlotZeroAndCompletes :
    ((performing true opened).inProgress = true ∧ ({ opened with jc.room := some .unguard } : State).jc.room ≠ none ∧
      opened.jc.room = none) ∧
    (opened.inProgress = false ∧ (formatAt .unformatted .headWait).step = .headWait ∧
      (formatAt .unformatted .headWait).cameFrom = .unformatted ∧ (formatAt .opened .headWait).cameFrom ≠ .unformatted ∧
      (formatAt .opened .headWait).number ≠ 1) ∧
    (∀ x ∈ [(Owner.scrub, FormatStep.scrub 659), (.scrub, .scrub 660), (.invalidate0, .invalidate0), (.invalidate1, .invalidate1),
        (.slot0, .slot0)],
      let c := formatAt .opened x.2
      let s := working x.1 [plainRead] (inState (.formatting c))
      s.inReset = false ∧ s.port.inFlight = some (.controller, plainRead) ∧
        s.jc.work = some { owner := x.1, todo := [plainRead], got := [] } ∧ s.jc.state = .formatting c ∧ c.step = x.2) ∧
    (659 + 1 < opened.capacity ∧ opened.capacity ≤ 660 + 1) ∧
    (let c := formatAt .opened .clear
     let s := { inState (.formatting c) with tags.done := .all }
     s.jc.state = .formatting c ∧ c.step = .clear ∧ s.jc.epoch = some epoch3 ∧ s.tags.done = .all ∧ opened.tags.done ≠ .all) := by
  decide +kernel

def clearAt (step : ClearStep) : ClearCtx := { copy := copied, step := step }

theorem test_meets_ClearingAndDiscardComplete :
    (∀ step ∈ [ClearStep.headWait, .clear, .apply, .anchor],
      let s := { inState (.clearing (clearAt step)) with tags.done := .all }
      s.jc.epoch = some epoch3 ∧ s.jc.state = .clearing (clearAt step) ∧ (clearAt step).step = step ∧ s.inProgress = false ∧
        s.tags.done = .all ∧ epoch3.number ≠ 0xFFFFFFFF) ∧
    (let s := { performing true (inState (.clearing (clearAt .clear))) with jc.epoch := some lastEpoch }
     s.inProgress = true ∧ s.tags.done ≠ .all ∧ s.jc.epoch = some lastEpoch ∧ lastEpoch.number = 0xFFFFFFFF) ∧
    ((updating .clearing (inState (.clearing (clearAt .anchor)))).anchor.active.map AnchorWrite.requester) = some .clearing ∧
    (let c : DiscardCtx := { fromUnguarded := false, count := 1, newTail := 1, freed := 1 }
     let s := updating .discard (inState (.discarding c))
     s.inReset = false ∧ (s.anchor.active.map AnchorWrite.requester) = some .discard ∧ s.jc.state = .discarding c) := by decide

theorem test_meets_TagsAreSetAndSwept :
    (let s := { opened with tags.activity := .retiring 4 }
     s.inReset = false ∧ s.tags.activity = .retiring 4 ∧ s.tags.store.wf = true) ∧
    (let s := { opened with tags.activity := .fullClear }
     s.inReset = false ∧ s.tags.activity = .fullClear ∧ ∀ r, s.tags.activity ≠ .retiring r) ∧
    (opened.tags.activity ≠ .fullClear) ∧ opened.tags.store.wf = true := by decide

/-- With no pre-image, with one, with the mark set, and not running. -/
theorem test_meets_TheAutoCommitTimerExpires :
    let s := { opened with jc.timer := .running 9 }
    (s.inReset = false ∧ s.jc.timer = .running 9 ∧ s.lines.halt = false ∧ s.jc.epoch = some epoch3 ∧ epoch3.preImages ≠ 0 ∧
      s.name = .opened ∧ s.mark = false) ∧
    (∀ e, ({ s with jc.epoch := none } : State).jc.epoch = some e → e.preImages = 0) ∧
    ({ s with jc.room := some .unguard } : State).mark = true ∧ opened.jc.timer = .idle := by
  refine ⟨by decide, fun e h => ?_, by decide, by decide⟩
  contradiction

theorem test_meets_AHaltBeginsAndEnds :
    (let s := { queued [waitingEntry saved] opened with lines.halt := true }
     s.lines.halt = true ∧ s.inProgress = false ∧ s.front.queue = [waitingEntry saved] ∧ s.inReset = false) ∧
      ({ State.reset with inReset := true } : State).inReset = true := by decide

theorem test_meets_TheStampCounter : opened.inReset = false ∧ opened.linkReady = true := by decide

/-- A run one sample short of its end and one that this sample completes, for each line and both; the requests' clauses. -/
theorem test_meets_TheLinesAreSampledAndQualify :
    ((almost opened).inReset = false ∧ (almost opened).link.policies.qualify.toNat + 1 = 4 ∧
      (almost opened).lines.ckpt.run + 1 = 4 ∧ (almost opened).lines.fallback.run + 1 = 4 ∧
      (almost opened).lines.ckpt.asserted = false ∧ (almost opened).lines.fallback.asserted = false) ∧
    (let s := { opened with lines.ckpt := { asserted := false, run := 2 }, lines.fallback := { asserted := true, run := 3 } }
     s.lines.ckpt.run + 1 < s.link.policies.qualify.toNat + 1 ∧ s.lines.fallback.asserted = true) ∧
    (opened.name = .opened ∧ opened.mark = false ∧ opened.lines.halt = false ∧ opened.jc.epoch = some epoch3) ∧
    ({ opened with jc.room := some .reclaim } : State).mark = true ∧ (inState .unguarded).name = .unguarded ∧
    (inState (.committing (commitAt .drain))).name = .committing ∧
    (let s := { opened with lines.ckptLatch := true, lines.fallbackLatch := true }
     s.lines.ckptLatch = true ∧ s.lines.fallbackLatch = true ∧ s.offerCkpt ≠ none ∧ s.offerFallback ≠ none) ∧
    (opened.lines.ckptLatch = false ∧ opened.lines.fallbackLatch = false ∧ opened.offerCkpt = none ∧
      opened.offerFallback = none) := by decide

/-- READY in a state of its list and in another; MISO in the first ANSWER position, in a later one, and elsewhere. -/
theorem test_meets_TheOutputsAndTheirCodes :
    (opened.name = .opened ∧ opened.lines.halt = false ∧ State.reset.ready = false) ∧
    (∀ k ∈ [0, 1],
      let l : Link := { opened.link with csLow := true, pos := .answer k, answer := some { result := .done, response := [7] } }
      l.csLow = true ∧ l.answer = some { result := .done, response := [7] } ∧ l.pos = .answer k) ∧
    (let l : Link := { opened.link with csLow := true, pos := .command }
     l.csLow = true ∧ l.pos = .command) := by decide

/-- Each position of the decoder, with the last argument byte but one and the last response byte. -/
theorem test_meets_FramesMoveTheDecoder :
    (opened.inReset = false ∧ opened.link.csLow = false ∧ opened.link.pos = .idle) ∧
    ({ opened with link.csLow := true } : State).link.csLow = true ∧
    ({ opened with link.pos := .turnaround } : State).link.pos = .turnaround ∧
    (let s := { opened with link.pos := .answer 2, link.answer := some { result := .done, response := [1, 2] } }
     s.link.pos = .answer 2 ∧ s.link.answer = some { result := .done, response := [1, 2] }) ∧
    ({ opened with link.pos := .command } : State).link.pos = .command ∧ commandShape 0x21 = some (4, 0) ∧
    ([1, 2] : List Byte).length + 1 ≠ 4 ∧ commandShape 0x99 = none ∧
    ({ opened with link.pos := .arguments 0x21 [1, 2] } : State).link.pos = .arguments 0x21 [1, 2] := by decide

theorem test_meets_FrameBytesExecuteTheirCommand_FramesReadBack :
    ((Instr.commit).wellFormed = true ∧ frameBytes .commit = some (0x20, [])) ∧
    ((Instr.rollback 5).wellFormed = true ∧ frameBytes (.rollback 5) = some (0x21, [5, 0, 0] ++ [0])) ∧
    ({ opened with link.pos := .overrun } : State).linkReady = false := by decide

theorem test_meets_ReadEventsLosesNoEvent :
    opened.linkReady = true ∧
    (∀ p ∈ [FramePos.overrun, .turnaround],
      let s := { opened with events.capture := some 5, link.pos := p }
      s.inReset = false ∧ s.events.capture = some 5 ∧ s.link.pos = p) := by decide

/-- The mask at its boundary: 0x1000 is refused, 0x0FFF taken. -/
theorem test_meets_SetEventMask :
    opened.linkReady = true ∧ (0x1000 : Half) &&& 0xF000 ≠ 0 ∧ (0x0FFF : Half) &&& 0xF000 = 0 := by decide

theorem test_meets_GetStatus_TheReports_EpochAndDirectory_Policies :
    (inState (.recovering (recoveryAt (.scan 1 3)))).name = .recovering ∧
      (∀ count slot, (recoveryAt (.tagWait .undo)).step ≠ .scan count slot) ∧
      (formatAt .unformatted .slot0).cameFrom = .unformatted ∧ (formatAt .unformatted .slot0).step ≠ .apply ∧
      (formatAt .unformatted .slot0).step ≠ .clear ∧ (formatAt .opened .slot0).cameFrom ≠ .unformatted ∧
      (formatAt .unformatted .apply).step = .apply ∧ (inState (.clearing (clearAt .clear))).name = .clearing ∧
    opened.linkReady = true ∧ (inState .unformatted).linkReady = true ∧ opened.jc.tail < 2 ^ 24 ∧ opened.jc.head < 2 ^ 24 ∧
      opened.jc.occupancy < 2 ^ 24 ∧ State.reset.anchor.newest = none ∧ opened.anchor.newest = some { slot := .slot0, seq := 5 } ∧
      opened.events.report = none ∧ State.reset.name = .anchorRead ∧ opened.name ≠ .anchorRead ∧ opened.name ≠ .recovering ∧
      opened.name ≠ .unformatted ∧ (1 : Byte).toNat ≤ 1 ∧ 1 < (2 : Byte).toNat ∧ (7 : Byte).toNat ≤ 7 ∧ 7 < (8 : Byte).toNat ∧
      opened.windows.staged.getD 0 none ≠ none ∧ opened.windows.committed.getD 7 none = none ∧
      (opened.beginReport .command (some 2) 3 0).events.report ≠ none ∧
      opened.jc.directory[1]? = some entry2 ∧ opened.jc.directory.length ≤ (2 : Byte).toNat :=
  ⟨by decide, fun _ _ h => RecoveryStep.noConfusion h, by decide⟩

/-- The window checks at their boundaries: the last granule, an overlap with slot 0, the tag limit, and a window that fits. -/
theorem test_meets_StageWindowChecksInOrder :
    opened.linkReady = true ∧ opened.name ≠ .anchorRead ∧ (0 : Nat) < (1 : Word).toNat ∧
      (2097151 : Word).toNat + (1 : Word).toNat ≤ 2097152 ∧ 2097152 < (2097151 : Word).toNat + (2 : Word).toNat ∧
      ((opened.windows.staged.set 2 (win 200000 131068 .journaled)).map tagLength).sum = 131072 ∧
      131072 < ((opened.windows.staged.set 2 (win 200000 131069 .journaled)).map tagLength).sum ∧
      opened.windows.staged[0]? = some (win 8 4 .journaled) := by decide +kernel

theorem test_meets_ClearWindowEmptiesOneSlot :
    opened.linkReady = true ∧ State.reset.linkReady = true ∧ State.reset.name = .anchorRead ∧ 7 < (8 : Byte).toNat ∧
      (7 : Byte).toNat ≤ 7 ∧ opened.windows.staged[7]? = some none ∧ opened.flagExact = true := by decide

theorem test_meets_TheGeneration_TheRing_RecordsAndAnchors :
    (1 ≤ 1 ∧ 660 < ringCapacity 0 ∧ (savedRecord.encode 2).length = 48) ∧ anchorImage.jbase = (1 : BitVec 4).setWidth 8 ∧
      anchorImage.jsize = (0 : BitVec 3).setWidth 8 ∧ anchorImage.format ≠ 0 ∧ anchorImage.table.length = 8 ∧
      (∀ w ∈ anchorImage.table, ∀ x, w = some x → x.base < 4294967296 ∧ 0 < x.length ∧ x.length < 2147483648) ∧
      anchorImage.directory.length ≤ 15 ∧
      (∀ d ∈ anchorImage.directory, d.firstSlot < 16777216 ∧ d.slots < 16777216 ∧ d.preImages = d.slots - 1) ∧
      anchorImage.openFirstSlot < 4294967296 ∧ anchorImage.tail < 4294967296 ∧ anchorImage.occupancy < 4294967296 ∧
      anchorImage.intent ≠ some 0 := by
  have h : ∀ w ∈ anchorImage.table,
      (w.all fun x => decide (x.base < 4294967296 ∧ 0 < x.length ∧ x.length < 2147483648)) = true := by decide
  refine ⟨by decide +kernel, by decide, by decide, by decide, by decide, ?_, by decide, by decide, by decide, by decide, by decide,
    by decide⟩
  intro w hw x hx
  subst hx
  simpa using h _ hw

/-- The law of the ring holds of a state in OPEN with a head in progress; and of one whose last read of a scan is in flight, whose
answer is a PRE-IMAGE record that a 2410 wrote. -/
theorem test_meets_StepKeepsTheRing :
    ((performing true opened).portDisciplined = true ∧ (performing true opened).ringLawful = true) ∧
    (let s := { working .scan [.granuleRead 0] (inState (.recovering (recoveryAt (.scan 0 2)))) with
        jc.epoch := some { epoch3 with preImages := 0 }, jc.occupancy := 2 }
     s.portDisciplined = true ∧ s.ringLawful = true ∧ s.readsGenuine (savedRecord.encode 2) = true) := by decide +kernel

/-- The laws hold of a state in OPEN with a head in progress, and it is settled. -/
theorem test_meets_StepKeepsTheLaws_PortDiscipline_Settled :
    let s := performing true opened
    s.flagExact = true ∧ s.queueBounded = true ∧ s.directoryBounded = true ∧ s.tags.store.wf = true ∧ s.qualifiersBounded = true ∧
      s.timerPlaced = true ∧ s.holdPlaced = true ∧ s.generationExact = true ∧ s.reportWhole = true ∧ s.frameIdle = true ∧
      s.quietReset = true ∧ s.portDisciplined = true ∧ s.settled = true := by decide +kernel

end Sys2Proof.Tests
end

section
/-! SUPPORT. Generations (R36), the state right after reset (R29), and the ends of the tag passes (R38 to R40). -/

namespace Sys2Proof.Machine

/-! ### Generations (R36) -/

theorem generationOf_toNat (e : Nat) : (generationOf e).toNat = (e - 1) % 7 + 1 := by
  rw [generationOf, BitVec.toNat_ofNat]
  omega

theorem generationOf_eq_iff (d e : Nat) : generationOf d = generationOf e ↔ (d - 1) % 7 = (e - 1) % 7 := by
  rw [← BitVec.toNat_inj, generationOf_toNat, generationOf_toNat]
  omega

/-- Settles O53: the generation is a number from 1 to 7, so three bits hold it, and two epochs share one exactly when their numbers
agree modulo 7. -/
theorem theGenerationOfAnEpoch : Obligations.TheGenerationOfAnEpoch := by
  intro e he
  refine ⟨generationOf_toNat e, ?_, ?_⟩
  · rw [Ne, generationOf_eq_iff]
    omega
  · rw [generationOf_eq_iff]
    omega

/-! ### The state right after reset (R29, R161) -/

/-- The claims and the transaction in flight are absent, the queue is empty and no save runs. -/
theorem reset_portDisciplined : State.reset.portDisciplined = true := rfl

/-- ANCHOR_READ asks nothing of the ring, and the pointers of log 11 leave it empty. -/
theorem reset_ringLawful : State.reset.ringLawful = true := by decide

/-- Settles O60: every law is a test, and State.reset is one state, so each law is evaluated there. -/
theorem resetObeysTheLaws : Obligations.ResetObeysTheLaws :=
  ⟨rfl, rfl, rfl, rfl, rfl, rfl, rfl, rfl, rfl, rfl, rfl, reset_portDisciplined, reset_ringLawful⟩

/-! ### The ends of the tag passes (R38 to R40) -/

/-- Outside reset an event is its own effect followed by what comes about inside it. -/
theorem event_of_live {s : State} (h : s.inReset = false) (f : State → State) : s.event f = (f s).finish s.claimWaits := by
  simp [State.event, State.live, h]

theorem retireEnded_of_retiring {s : State} {r : Gen} (h : s.tags.activity = .retiring r) :
    s.retireEnded = { s with tags := { store := s.tags.store.retire r, activity := .idle, done := .gen r } } := by
  simp [State.retireEnded, h]

theorem retireEnded_of_not_retiring {s : State} (h : ∀ r, s.tags.activity ≠ .retiring r) : s.retireEnded = s := by
  unfold State.retireEnded
  split
  case h_1 r hr => exact absurd hr (h r)
  case h_2 => rfl
  case h_3 => rfl

theorem clearEnded_of_fullClear {s : State} (h : s.tags.activity = .fullClear) :
    s.clearEnded = { s with tags := { store := .cleared, activity := .idle, done := .all } } := by
  simp [State.clearEnded, h]

theorem clearEnded_of_not_fullClear {s : State} (h : s.tags.activity ≠ .fullClear) : s.clearEnded = s := by
  unfold State.clearEnded
  split
  case h_1 hc => exact absurd hc h
  case h_2 => rfl
  case h_3 => rfl

/-- RETIRE_SWEEP_END outside reset. -/
theorem exec_retireSweepEnd {s : State} (h : s.inReset = false) :
    exec .retireSweepEnd s = .next (s.retireEnded.finish s.claimWaits) :=
  congrArg Host.Outcome.next (event_of_live h State.retireEnded)

/-- FULL_CLEAR_END outside reset. -/
theorem exec_fullClearEnd {s : State} (h : s.inReset = false) :
    exec .fullClearEnd s = .next (s.clearEnded.finish s.claimWaits) :=
  congrArg Host.Outcome.next (event_of_live h State.clearEnded)

/-- Settles O37: each pass takes its effect at its end, and what an entry then reads is `read_retire`, `read_cleared` or
`read_set`. -/
theorem tagsAreSetAndSwept : Obligations.TagsAreSetAndSwept := by
  refine ⟨⟨fun s r hlive hact hwf => ?_, fun s hlive hact => ?_⟩, ⟨fun s hlive hact => ?_, fun s hlive hact => ?_⟩,
    fun st t g hwf => ?_⟩
  · refine ⟨s.tags.store.retire r, fun n => read_retire _ r n hwf, wf_retire _ r hwf, ?_⟩
    rw [exec_retireSweepEnd hlive, retireEnded_of_retiring hact]
  · rw [exec_retireSweepEnd hlive, retireEnded_of_not_retiring hact]
  · refine ⟨.cleared, read_cleared, wf_cleared, ?_⟩
    rw [exec_fullClearEnd hlive, clearEnded_of_fullClear hact]
  · rw [exec_fullClearEnd hlive, clearEnded_of_not_fullClear hact]
  · refine ⟨wf_set st t g hwf, ?_, fun u hu => ?_⟩
    · rw [read_set, if_pos rfl]
    · rw [read_set, if_neg hu]

end Sys2Proof.Machine
end

section
/-! SUPPORT. The commit's open: the next epoch opened with the commit's copy applied, and its anchor update asked for (R31, R90 to
R92). -/

namespace Sys2Proof.Machine

/-- R41: the tags let epoch e open when the last pass was a full clear or the retire sweep of its generation. -/
theorem mayOpen_iff (u : TagUnit) (e : Nat) : u.mayOpen e = true ↔ u.done = .all ∨ u.done = .gen (generationOf e) := by
  unfold TagUnit.mayOpen
  cases u.done <;> simp

theorem epochAfter_last : epochAfter 0xFFFFFFFF = none := rfl

theorem epochAfter_of_ne {n : Word} (h : n ≠ 0xFFFFFFFF) : epochAfter n = some (n + 1) := if_neg h

/-- R31: below the last epoch number the next number does not wrap. -/
theorem toNat_next_epoch {n : Word} (h : n ≠ 0xFFFFFFFF) : (n + 1).toNat = n.toNat + 1 := by
  bv_omega

theorem openNumber_of_epoch {s : State} {e : OpenEpoch} (h : s.jc.epoch = some e) : s.openNumber = e.number := by
  simp [State.openNumber, h]

/-- R90: a commit at its tag wait opens when the tags allow the next epoch. -/
theorem commitStep_tagWait {s : State} {c : CommitCtx} {e : OpenEpoch} (hc : c.step = .tagWait) (he : s.jc.epoch = some e) :
    s.commitStep c = if s.tags.mayOpen (e.number.toNat + 1) then some (s.commitOpen c) else none := by
  simp [State.commitStep, hc, openNumber_of_epoch he]

/-- R91: the state in which the next epoch m has been opened with the commit's copy applied, before its update is asked for. -/
def State.commitOpened (c : CommitCtx) (m : Word) (s : State) : State :=
  let s1 := s.openEpoch m false
  let s2 := if c.copy.differs then s1.applyCopy c.copy else s1
  { s2 with jc.state := .committing { c with step := .anchor } }

theorem commitOpen_of_next {s : State} {m : Word} (c : CommitCtx) (h : epochAfter s.openNumber = some m) :
    s.commitOpen c = (s.commitOpened c m).startUpdate .commit (s.commitOpened c m).image := by
  simp [State.commitOpen, h, State.commitOpened]

theorem commitOpen_of_exhausted {s : State} (c : CommitCtx) (h : epochAfter s.openNumber = none) :
    s.commitOpen c = State.enterDamaged .exhausted { s.endLong .failed with jc := { s.jc with epoch := none } } := by
  simp [State.commitOpen, h]

/-- R91: the record of epoch m opened at head, whether or not the windows change. -/
theorem commitOpened_epoch (s : State) (c : CommitCtx) (m : Word) : (s.commitOpened c m).jc.epoch =
    some { number := m, firstSlot := s.jc.head, firstSeq := s.jc.nextSeq, preImages := 0, writes := 0, broken := false,
           generation := generationOf m.toNat } := by
  unfold State.commitOpened
  cases c.copy.differs <;> rfl

/-- R91: opening the next epoch moves neither the ring's other pointers nor the directory. -/
theorem commitOpened_ring (s : State) (c : CommitCtx) (m : Word) :
    (s.commitOpened c m).jc.directory = s.jc.directory ∧ (s.commitOpened c m).jc.tail = s.jc.tail ∧
      (s.commitOpened c m).jc.occupancy = s.jc.occupancy := by
  unfold State.commitOpened
  cases c.copy.differs <;> exact ⟨rfl, rfl, rfl⟩

/-- R25, R91, R147: the copy replaces the committed table, and clears the window change lost mark, when it differed. -/
theorem commitOpened_windows (s : State) (c : CommitCtx) (m : Word) :
    (s.commitOpened c m).windows.committed = (if c.copy.differs then c.copy.table else s.windows.committed) ∧
      (s.commitOpened c m).windows.staged = s.windows.staged ∧
      (s.commitOpened c m).jc.windowLost = (s.jc.windowLost && !c.copy.differs) := by
  unfold State.commitOpened
  cases h : c.copy.differs
  · exact ⟨rfl, rfl, (Bool.and_true _).symm⟩
  · exact ⟨rfl, rfl, by simp [State.applyCopy, h]⟩

/-- R180: a COMMIT command's result is written at the end of its commit; a commit that no command started writes none. -/
theorem endLong_lastResult_of_committing {s : State} {c : CommitCtx} (h : s.jc.state = .committing c) (r : LongResult) :
    (s.endLong r).link.lastResult = if c.byCommand then r else s.link.lastResult := by
  unfold State.endLong
  cases hb : c.byCommand <;> simp [h, Ctl.longOp, hb]

/-- Settles O21: whether the tags let the next epoch open is `mayOpen_iff`; what is opened is `commitOpened`, and the update asked for
takes its image from it. -/
theorem theCommitOpensTheNextEpoch : Obligations.TheCommitOpensTheNextEpoch := by
  intro s c e hstep he
  have hnum := openNumber_of_epoch he
  refine ⟨fun hwait => ?_, fun hopen hne => ?_, fun hopen hlast hstate => ?_⟩
  · rw [commitStep_tagWait hstep he, if_neg (mt (mayOpen_iff _ _).1 hwait)]
  · have hnext : epochAfter s.openNumber = some (e.number + 1) := by rw [hnum, epochAfter_of_ne hne]
    have hepoch := commitOpened_epoch s c (e.number + 1)
    obtain ⟨hdir, htail, hocc⟩ := commitOpened_ring s c (e.number + 1)
    obtain ⟨hcommitted, hstaged, hlost⟩ := commitOpened_windows s c (e.number + 1)
    have hnumber : (s.commitOpened c (e.number + 1)).openNumber = e.number + 1 := openNumber_of_epoch hepoch
    refine ⟨s.commitOpen c, by rw [commitStep_tagWait hstep he, if_pos ((mayOpen_iff _ _).2 hopen)], ?_⟩
    rw [commitOpen_of_next c hnext]
    refine ⟨rfl, ?_, hcommitted, hstaged, hlost, hdir, htail, hocc, _, rfl, rfl, hnumber, rfl, hdir, rfl⟩
    rw [← toNat_next_epoch hne]
    exact hepoch
  · have hnone : epochAfter s.openNumber = none := by rw [hnum, hlast, epochAfter_last]
    refine ⟨s.commitOpen c, by rw [commitStep_tagWait hstep he, if_pos ((mayOpen_iff _ _).2 hopen)], ?_⟩
    rw [commitOpen_of_exhausted c hnone]
    refine ⟨rfl, rfl, endLong_windows s .failed, rfl, ?_, endLong_lastResult_of_committing hstate .failed⟩
    exact congrArg (·.flags ||| (0x040 : BitVec 12)) (endLong_events s .failed)

end Sys2Proof.Machine
end

section
/-! SUPPORT. GET OPEN EPOCH and GET DIRECTORY ENTRY: their refusals, and where each field stands in their responses (R35, R105,
R191). -/

namespace Sys2Proof.Machine

/-! ### GET OPEN EPOCH (R35) -/

/-- R178: in a frame that is where a command executes, a link command is its execution event. -/
theorem linkCommand_of_ready {s : State} (h : s.linkReady = true) (f : State → State) : s.linkCommand f = f s := if_pos h

theorem exec_getOpenEpoch {s : State} (h : s.linkReady = true) : exec .getOpenEpoch s = .next s.runGetOpenEpoch :=
  congrArg Host.Outcome.next (linkCommand_of_ready h _)

theorem exec_getDirectoryEntry {s : State} (h : s.linkReady = true) (k : Byte) :
    exec (.getDirectoryEntry k) s = .next (s.runGetDirectoryEntry k) :=
  congrArg Host.Outcome.next (linkCommand_of_ready h _)

/-- R35: while the anchor is read or the ring recovered the record cannot be reported. -/
theorem runGetOpenEpoch_busy {s : State} (h : s.name = .anchorRead ∨ s.name = .recovering) :
    s.runGetOpenEpoch = s.refuse .busy 24 := by
  rcases h with h | h <;> simp [State.runGetOpenEpoch, h]

theorem runGetOpenEpoch_unformatted {s : State} (h : s.name = .unformatted) : s.runGetOpenEpoch = s.refuse .notOpen 24 := by
  simp [State.runGetOpenEpoch, h]

/-- R35: in the other eight states the record is reported as it stands. -/
theorem runGetOpenEpoch_done {s : State} (ha : s.name ≠ .anchorRead) (hr : s.name ≠ .recovering) (hu : s.name ≠ .unformatted) :
    s.runGetOpenEpoch = s.answer .done s.openEpochBytes := by
  unfold State.runGetOpenEpoch
  split
  case h_1 h => exact absurd h ha
  case h_2 h => exact absurd h hr
  case h_3 h => exact absurd h hu
  all_goals rfl

theorem flagsByte_bit0 (p q : Bool) : (flagsByte p q).getLsbD 0 = p := by
  cases p <;> cases q <;> rfl

@[simp] theorem epochBytes_length (r : Option OpenEpoch) : (epochBytes r).length = 20 := by
  cases r <;> simp [epochBytes]

@[simp] theorem sweepBytes_length (a : Sweep) : a.bytes.length = 2 := by
  cases a <;> rfl

theorem openEpochBytes_length (s : State) : s.openEpochBytes.length = 24 := by
  simp [State.openEpochBytes]

/-- R191: the record's fields stand between the state's code and the two bytes of the sweep activity, the sweep-done mark last. -/
theorem openEpochBytes_parts (s : State) :
    s.openEpochBytes.getD 0 0 = s.name.code ∧ fieldAt 1 20 s.openEpochBytes = epochBytes s.jc.epoch ∧
      fieldAt 21 2 s.openEpochBytes = s.tags.activity.bytes ∧ s.openEpochBytes.getD 23 0 = s.tags.done.byte := by
  unfold State.openEpochBytes
  refine ⟨rfl, ?_, ?_, ?_⟩
  · rw [fieldAt_append_left _ _ _ _ (by simp), fieldAt_append_left _ _ _ _ (by simp), fieldAt_append_right _ _ _ _ (by simp),
      List.length_singleton, fieldAt_whole _ _ (epochBytes_length _)]
  · rw [fieldAt_append_left _ _ _ _ (by simp), fieldAt_append_right _ _ _ _ (by simp)]
    simpa using fieldAt_whole _ _ (sweepBytes_length s.tags.activity)
  · rw [List.getD_append_right _ _ _ _ (by simp)]
    simp

/-- R191: the seven fields of a record that is present, each at its offset in the response. -/
theorem openEpochBytes_record {s : State} {e : OpenEpoch} (h : s.jc.epoch = some e) :
    fieldAt 1 4 s.openEpochBytes = leBytes 4 e.number.toNat ∧ fieldAt 5 3 s.openEpochBytes = leBytes 3 e.firstSlot ∧
      fieldAt 8 4 s.openEpochBytes = leBytes 4 e.firstSeq.toNat ∧ fieldAt 12 3 s.openEpochBytes = leBytes 3 e.preImages ∧
      fieldAt 15 4 s.openEpochBytes = leBytes 4 e.writes.toNat ∧ s.openEpochBytes.getD 19 0 = flagsByte e.broken false ∧
      s.openEpochBytes.getD 20 0 = e.generation.setWidth 8 := by
  rw [State.openEpochBytes, h]
  exact ⟨rfl, rfl, rfl, rfl, rfl, rfl, rfl⟩

/-! ### GET DIRECTORY ENTRY (R105) -/

theorem runGetDirectoryEntry_badArgument {k : Byte} (h : 14 < k.toNat) (s : State) :
    s.runGetDirectoryEntry k = s.refuse .badArgument 23 := if_pos h

theorem runGetDirectoryEntry_busy {s : State} {k : Byte} (hk : k.toNat ≤ 14) (h : s.name = .anchorRead ∨ s.name = .recovering) :
    s.runGetDirectoryEntry k = s.refuse .busy 23 := by
  rw [State.runGetDirectoryEntry, if_neg (by omega), if_pos h]

theorem runGetDirectoryEntry_unformatted {s : State} {k : Byte} (hk : k.toNat ≤ 14) (h : s.name = .unformatted) :
    s.runGetDirectoryEntry k = s.refuse .notOpen 23 := by
  rw [State.runGetDirectoryEntry, if_neg (by omega), if_neg (by simp [h]), if_pos h]

theorem runGetDirectoryEntry_noSuch {s : State} {k : Byte} (hk : k.toNat ≤ 14) (ha : s.name ≠ .anchorRead)
    (hr : s.name ≠ .recovering) (hu : s.name ≠ .unformatted) (hd : s.jc.directory.length ≤ k.toNat) :
    s.runGetDirectoryEntry k = s.refuse .noSuch 23 := by
  simp [State.runGetDirectoryEntry, hk.not_gt, ha, hr, hu, hd]

theorem runGetDirectoryEntry_done {s : State} {k : Byte} {d : DirEntry} (hk : k.toNat ≤ 14) (ha : s.name ≠ .anchorRead)
    (hr : s.name ≠ .recovering) (hu : s.name ≠ .unformatted) (hd : s.jc.directory[k.toNat]? = some d) :
    s.runGetDirectoryEntry k = s.answer .done (directoryBytes s.jc.directory.length d) := by
  simp [State.runGetDirectoryEntry, hk.not_gt, ha, hr, hu, hd]

theorem directoryBytes_length (n : Nat) (d : DirEntry) : (directoryBytes n d).length = 23 := by
  simp [directoryBytes]

/-- R191: the count and the seven fields of an entry, each at its offset in the response. -/
theorem directoryBytes_fields (n : Nat) (d : DirEntry) :
    (directoryBytes n d).getD 0 0 = BitVec.ofNat 8 n ∧ fieldAt 1 4 (directoryBytes n d) = leBytes 4 d.number.toNat ∧
      fieldAt 5 3 (directoryBytes n d) = leBytes 3 d.firstSlot ∧ fieldAt 8 3 (directoryBytes n d) = leBytes 3 d.slots ∧
      fieldAt 11 3 (directoryBytes n d) = leBytes 3 d.preImages ∧
      fieldAt 14 4 (directoryBytes n d) = leBytes 4 d.writes.toNat ∧
      fieldAt 18 4 (directoryBytes n d) = leBytes 4 d.stamp.toNat ∧
      (directoryBytes n d).getD 22 0 = flagsByte d.broken false :=
  ⟨rfl, rfl, rfl, rfl, rfl, rfl, rfl, rfl⟩

/-- R35, R191: GET OPEN EPOCH reports the record and the tag passes as they stand. -/
theorem openEpoch_reported {s : State} (hready : s.linkReady = true) (ha : s.name ≠ .anchorRead) (hr : s.name ≠ .recovering)
    (hu : s.name ≠ .unformatted) : ∃ b : List Byte, b.length = 24 ∧ exec .getOpenEpoch s = .next (s.answer .done b) ∧
      b.getD 0 0 = s.name.code ∧ (s.jc.epoch = none → fieldAt 1 20 b = List.replicate 20 0) ∧
      (∀ e, s.jc.epoch = some e → leWord (fieldAt 1 4 b) = e.number ∧ leWord (fieldAt 8 4 b) = e.firstSeq ∧
        leWord (fieldAt 15 4 b) = e.writes ∧ fieldAt 5 3 b = leBytes 3 e.firstSlot ∧ fieldAt 12 3 b = leBytes 3 e.preImages ∧
        (b.getD 19 0).getLsbD 0 = e.broken ∧ b.getD 20 0 = e.generation.setWidth 8) ∧
      fieldAt 21 2 b = s.tags.activity.bytes ∧ b.getD 23 0 = s.tags.done.byte := by
  obtain ⟨hname, hrecord, hactivity, hdone⟩ := openEpochBytes_parts s
  refine ⟨s.openEpochBytes, openEpochBytes_length s, ?_, hname, fun hnone => ?_, fun e he => ?_, hactivity, hdone⟩
  · rw [exec_getOpenEpoch hready, runGetOpenEpoch_done ha hr hu]
  · rw [hrecord, hnone, epochBytes]
  · obtain ⟨hnumber, hslot, hseq, hpre, hwrites, hflags, hgen⟩ := openEpochBytes_record he
    rw [hnumber, hseq, hwrites, hflags, leWord_leBytes, leWord_leBytes, leWord_leBytes, flagsByte_bit0]
    exact ⟨rfl, rfl, rfl, hslot, hpre, rfl, hgen⟩

/-- R105, R191: GET DIRECTORY ENTRY reports the entry as it stands. -/
theorem directoryEntry_reported {s : State} (hready : s.linkReady = true) {k : Byte} {d : DirEntry} (hk : k.toNat ≤ 14)
    (ha : s.name ≠ .anchorRead) (hr : s.name ≠ .recovering) (hu : s.name ≠ .unformatted)
    (hd : s.jc.directory[k.toNat]? = some d) :
    ∃ b : List Byte, b.length = 23 ∧ exec (.getDirectoryEntry k) s = .next (s.answer .done b) ∧
      b.getD 0 0 = BitVec.ofNat 8 s.jc.directory.length ∧ leWord (fieldAt 1 4 b) = d.number ∧
      fieldAt 5 3 b = leBytes 3 d.firstSlot ∧ fieldAt 8 3 b = leBytes 3 d.slots ∧ fieldAt 11 3 b = leBytes 3 d.preImages ∧
      leWord (fieldAt 14 4 b) = d.writes ∧ leWord (fieldAt 18 4 b) = d.stamp ∧ (b.getD 22 0).getLsbD 0 = d.broken := by
  obtain ⟨hcount, hnumber, hslot, hslots, hpre, hwrites, hstamp, hflags⟩ := directoryBytes_fields s.jc.directory.length d
  refine ⟨_, directoryBytes_length s.jc.directory.length d, ?_, hcount, ?_, hslot, hslots, hpre, ?_, ?_, ?_⟩
  · rw [exec_getDirectoryEntry hready, runGetDirectoryEntry_done hk ha hr hu hd]
  · rw [hnumber, leWord_leBytes]
  · rw [hwrites, leWord_leBytes]
  · rw [hstamp, leWord_leBytes]
  · rw [hflags, flagsByte_bit0]

/-- Settles O49: each command's refusals in their order, then its report. -/
theorem epochAndDirectoryAreReported : Obligations.EpochAndDirectoryAreReported := by
  intro s hready
  refine ⟨fun h => ?_, fun h => ?_, openEpoch_reported hready, fun k =>
    ⟨fun h => ?_, fun hk h => ?_, fun hk h => ?_, fun hk ha hr hu hlen => ?_,
      fun d hk ha hr hu hd => directoryEntry_reported hready hk ha hr hu hd⟩⟩
  · rw [exec_getOpenEpoch hready, runGetOpenEpoch_busy h]; rfl
  · rw [exec_getOpenEpoch hready, runGetOpenEpoch_unformatted h]; rfl
  · rw [exec_getDirectoryEntry hready, runGetDirectoryEntry_badArgument h]; rfl
  · rw [exec_getDirectoryEntry hready, runGetDirectoryEntry_busy hk h]; rfl
  · rw [exec_getDirectoryEntry hready, runGetDirectoryEntry_unformatted hk h]; rfl
  · rw [exec_getDirectoryEntry hready, runGetDirectoryEntry_noSuch hk ha hr hu hlen]; rfl

end Sys2Proof.Machine
end

section
/-! SUPPORT. The commands waiting: no operation of any block touches them, so no command does (R28, R160, R179). -/

namespace Sys2Proof.Machine

/-! ### Operations that answer a state -/

section
variable (s : State)

@[simp] theorem claimSaveRead_pending (g t : Nat) : (s.claimSaveRead g t).pending = s.pending := rfl

@[simp] theorem reclaimStep_pending : s.reclaimStep.pending = s.pending := by simp [State.reclaimStep]

@[simp] theorem unguardStep_pending : s.unguardStep.pending = s.pending := rfl

@[simp] theorem askRoom_pending : s.askRoom.pending = s.pending := by
  unfold State.askRoom
  split <;> simp

@[simp] theorem writeCommitRecord_pending (i : CommitInfo) : (s.writeCommitRecord i).pending = s.pending := rfl

@[simp] theorem beginCommitRecord_pending (c : CommitCtx) : (s.beginCommitRecord c).pending = s.pending := by
  unfold State.beginCommitRecord
  split
  · rfl
  · simp only
    split <;> rfl

@[simp] theorem overflowDrop_pending : s.overflowDrop.pending = s.pending := by
  unfold State.overflowDrop
  split <;> simp

@[simp] theorem forcedDrop_pending : s.forcedDrop.pending = s.pending := by
  unfold State.forcedDrop
  split <;> simp

@[simp] theorem closeEpoch_pending (d : DirEntry) : (s.closeEpoch d).pending = s.pending := by simp [State.closeEpoch]

@[simp] theorem commitRecordDone_pending (c : CommitCtx) (i : CommitInfo) : (s.commitRecordDone c i).pending = s.pending := by
  unfold State.commitRecordDone
  split
  · rfl
  · simp only
    split <;> simp

@[simp] theorem commitOpen_pending (c : CommitCtx) : (s.commitOpen c).pending = s.pending := by
  unfold State.commitOpen
  split
  · simp
  · simp only
    split <;> simp

@[simp] theorem commitComplete_pending (c : CommitCtx) : (s.commitComplete c).pending = s.pending := by
  simp [State.commitComplete]

@[simp] theorem readWalk_pending (w : Walk) : (s.readWalk w).pending = s.pending := by
  unfold State.readWalk
  split <;> rfl

@[simp] theorem advanceWalk_pending (w : Walk) : (s.advanceWalk w).pending = s.pending := by simp [State.advanceWalk]

@[simp] theorem replayFailed_pending : s.replayFailed.pending = s.pending := by simp [State.replayFailed]

@[simp] theorem replayRecord_pending (bytes : List Byte) : (s.replayRecord bytes).pending = s.pending := by
  unfold State.replayRecord
  split
  · rfl
  · split
    · simp
    · split <;> simp

@[simp] theorem replayWritten_pending : s.replayWritten.pending = s.pending := by
  unfold State.replayWritten
  split <;> simp

@[simp] theorem beginAnchorRead_pending : s.beginAnchorRead.pending = s.pending := rfl

@[simp] theorem scanRead_pending (n : Nat) : (s.scanRead n).pending = s.pending := rfl

@[simp] theorem loadAnchor_pending (t : AnchorSlot) (a : Anchor) : (s.loadAnchor t a).pending = s.pending := rfl

@[simp] theorem judgeAnchors_pending (bytes : List Byte) : (s.judgeAnchors bytes).pending = s.pending := by
  unfold State.judgeAnchors
  split <;> rfl

@[simp] theorem beginRedo_pending (c : RecoveryCtx) (k : Course) (n : Word) : (s.beginRedo c k n).pending = s.pending := by
  simp [State.beginRedo]

@[simp] theorem takeCourse_pending (c : RecoveryCtx) (k : Course) : (s.takeCourse c k).pending = s.pending := by
  unfold State.takeCourse
  cases k
  case redo => simp
  case broken => simp
  case forward =>
    simp only
    split <;> simp
  case undo => simp

@[simp] theorem endScan_pending (c : RecoveryCtx) (n h : Nat) : (s.endScan c n h).pending = s.pending := by
  simp [State.endScan]

@[simp] theorem scanRecord_pending (c : RecoveryCtx) (n slot : Nat) (bytes : List Byte) :
    (s.scanRecord c n slot bytes).pending = s.pending := by
  unfold State.scanRecord
  simp only
  split
  · simp
  · split
    · simp
    · split <;> simp

@[simp] theorem scanFailed_pending : s.scanFailed.pending = s.pending := by
  unfold State.scanFailed
  split
  · split <;> simp
  · simp

@[simp] theorem recoveryOpen_pending (c : RecoveryCtx) (k : Course) : (s.recoveryOpen c k).pending = s.pending := by
  unfold State.recoveryOpen
  split <;> simp

@[simp] theorem rollbackAbandoned_pending : s.rollbackAbandoned.pending = s.pending := by simp [State.rollbackAbandoned]

@[simp] theorem askIntent_pending (c : RollbackCtx) : (s.askIntent c).pending = s.pending := rfl

@[simp] theorem intentDone_pending (c : RollbackCtx) : (s.intentDone c).pending = s.pending := by simp [State.intentDone]

@[simp] theorem rollbackOpen_pending (c : RollbackCtx) : (s.rollbackOpen c).pending = s.pending := by
  unfold State.rollbackOpen
  split <;> simp

@[simp] theorem rollbackComplete_pending : s.rollbackComplete.pending = s.pending := by simp [State.rollbackComplete]

@[simp] theorem askDiscard_pending (c : DiscardCtx) : (s.askDiscard c).pending = s.pending := rfl

@[simp] theorem takeDiscard_pending (n : Word) : (s.takeDiscard n).pending = s.pending := by
  unfold State.takeDiscard
  simp only
  split <;> rfl

@[simp] theorem discardComplete_pending (c : DiscardCtx) : (s.discardComplete c).pending = s.pending := by
  simp [State.discardComplete]

@[simp] theorem takeFormat_pending : s.takeFormat.pending = s.pending := rfl

@[simp] theorem formatTo_pending (c : FormatCtx) (step : FormatStep) (o : Owner) (todo : List Request) :
    (s.formatTo c step o todo).pending = s.pending := rfl

@[simp] theorem scrubSlot_pending (c : FormatCtx) (n : Nat) : (s.scrubSlot c n).pending = s.pending := rfl

@[simp] theorem invalidate1_pending (c : FormatCtx) : (s.invalidate1 c).pending = s.pending := rfl

@[simp] theorem invalidate_pending (c : FormatCtx) : (s.invalidate c).pending = s.pending := by
  unfold State.invalidate
  split <;> rfl

@[simp] theorem writeSlot0_pending (c : FormatCtx) : (s.writeSlot0 c).pending = s.pending := rfl

@[simp] theorem formatBegin_pending (c : FormatCtx) : (s.formatBegin c).pending = s.pending := by
  unfold State.formatBegin
  split <;> simp

@[simp] theorem scrubDone_pending (c : FormatCtx) (n : Nat) : (s.scrubDone c n).pending = s.pending := by
  unfold State.scrubDone
  split <;> simp

@[simp] theorem slot0Done_pending (c : FormatCtx) : (s.slot0Done c).pending = s.pending := rfl

@[simp] theorem formatApply_pending (c : FormatCtx) : (s.formatApply c).pending = s.pending := rfl

@[simp] theorem formatComplete_pending : s.formatComplete.pending = s.pending := by simp [State.formatComplete]

@[simp] theorem takeClearing_pending : s.takeClearing.pending = s.pending := rfl

@[simp] theorem clearingEmpty_pending (c : ClearCtx) : (s.clearingEmpty c).pending = s.pending := rfl

@[simp] theorem clearingOpen_pending (c : ClearCtx) : (s.clearingOpen c).pending = s.pending := by
  unfold State.clearingOpen
  split <;> simp

@[simp] theorem clearingApply_pending (c : ClearCtx) : (s.clearingApply c).pending = s.pending := rfl

@[simp] theorem clearingComplete_pending : s.clearingComplete.pending = s.pending := by simp [State.clearingComplete]

@[simp] theorem reclaimDone_pending : s.reclaimDone.pending = s.pending := by
  unfold State.reclaimDone
  simp only
  split
  case h_1 =>
    split
    · simp
    · split <;> simp
  all_goals simp

@[simp] theorem unguardDone_pending : s.unguardDone.pending = s.pending := by
  unfold State.unguardDone
  simp only
  split <;> simp

end

/-! ### The steps inside an event -/

/-- R65: everything that a save in ROOM can do next. -/
theorem roomStep_some {s t : State} {g n : Nat} (h : s.roomStep g n = some t) :
    t = s.claimSaveRead g n ∨ t = s.askRoom ∨ t = { s with save := .idle } := by
  unfold State.roomStep at h
  split at h
  case h_1 => contradiction
  case h_2 | h_3 | h_4 =>
    split at h
    · contradiction
    · split at h
      · exact Or.inl (Option.some.inj h).symm
      · exact Or.inr (Or.inl (Option.some.inj h).symm)
  all_goals exact Or.inr (Or.inr (Option.some.inj h).symm)

theorem roomStep_pending {s t : State} {g n : Nat} (h : s.roomStep g n = some t) : t.pending = s.pending := by
  rcases roomStep_some h with rfl | rfl | rfl <;> simp

@[simp] theorem beginSave_pending (s : State) (e : Entry) : (s.beginSave e).pending = s.pending := by
  rcases beginSave_cases e s with h | h | ⟨r, rfl, h | h⟩
  · rw [h, perform_pending]
  · rw [h, claimSaveRead_pending]
  · rw [h, enterRoom_pending]
  · rw [roomStep_pending h, enterRoom_pending]

theorem act_pending {s t : State} {a : HeadAction} {e : Entry} (h : s.act a e = some t) : t.pending = s.pending := by
  revert h
  unfold State.act
  split
  case h_1 => rintro ⟨⟩; simp
  case h_2 => rintro ⟨⟩; simp
  case h_3 =>
    split
    · rintro ⟨⟩
    · rintro ⟨⟩; simp
  case h_4 => rintro ⟨⟩; simp

theorem headStep_pending {s t : State} (h : s.headStep = some t) : t.pending = s.pending := by
  unfold State.headStep at h
  split at h
  · contradiction
  · split at h
    · contradiction
    · split at h
      · exact act_pending h
      · split at h
        · exact roomStep_pending h
        · exact act_pending h
        · contradiction
        · contradiction

@[simp] theorem examineHead_pending (s : State) : s.examineHead.pending = s.pending := by
  unfold State.examineHead
  split
  · rfl
  · exact headStep_pending ‹_›

theorem acceptStep_pending {s t : State} (h : s.acceptStep = some t) : t.pending = s.pending := by
  revert t
  unfold State.acceptStep
  split <;> simp

theorem offerCkpt_pending {s t : State} (h : s.offerCkpt = some t) : t.pending = s.pending := by
  revert t
  simp [State.offerCkpt]

theorem offerFallback_pending {s t : State} (h : s.offerFallback = some t) : t.pending = s.pending := by
  unfold State.offerFallback at h
  simp only at h
  split at h
  · split at h
    · cases h; rfl
    · split at h
      · cases h; rfl
      · contradiction
  · contradiction

@[simp] theorem offerLatches_pending (s : State) : s.offerLatches.pending = s.pending :=
  offerLatches_keeps (P := fun t => t.pending = s.pending) (fun _ h => h) (fun _ _ h hs => (offerCkpt_pending h).trans hs)
    (fun _ _ h hs => (offerFallback_pending h).trans hs) s rfl

@[simp] theorem commitRecordFailed_pending (s : State) : s.commitRecordFailed.pending = s.pending := by
  simp [State.commitRecordFailed]

@[simp] theorem intentFailed_pending (s : State) : s.intentFailed.pending = s.pending := by simp [State.intentFailed]

@[simp] theorem recoveryComplete_pending (s : State) (c : RecoveryCtx) (k : Course) :
    (s.recoveryComplete c k).pending = s.pending := by
  simp [State.recoveryComplete]

theorem commitStep_pending {s t : State} {c : CommitCtx} (h : s.commitStep c = some t) : t.pending = s.pending := by
  revert t
  unfold State.commitStep
  split <;> simp

theorem recoveryStep_pending {s t : State} {c : RecoveryCtx} (h : s.recoveryStep c = some t) : t.pending = s.pending := by
  revert t
  unfold State.recoveryStep
  split <;> simp

theorem rollbackDrained_pending {s t : State} {c : RollbackCtx} (h : s.rollbackDrained c = some t) :
    t.pending = s.pending := by
  unfold State.rollbackDrained at h
  split at h
  case h_1 =>
    cases h
    split <;> simp
  case h_2 => cases h; simp
  case h_3 => contradiction

theorem rollbackStep_pending {s t : State} {c : RollbackCtx} (h : s.rollbackStep c = some t) : t.pending = s.pending := by
  unfold State.rollbackStep at h
  split at h
  case h_1 =>
    split at h
    · exact rollbackDrained_pending h
    · contradiction
  case h_2 => contradiction
  case h_3 =>
    split at h
    · cases h; rfl
    · contradiction
  case h_4 =>
    split at h
    · cases h; simp
    · contradiction
  case h_5 => contradiction

theorem discardStep_pending {s t : State} {c : DiscardCtx} (h : s.discardStep c = some t) : t.pending = s.pending := by
  revert t
  simp [State.discardStep]

theorem formatStep_pending {s t : State} {c : FormatCtx} (h : s.formatStep c = some t) : t.pending = s.pending := by
  revert t
  unfold State.formatStep
  split <;> simp

theorem clearingStep_pending {s t : State} {c : ClearCtx} (h : s.clearingStep c = some t) : t.pending = s.pending := by
  revert t
  unfold State.clearingStep
  split <;> simp

theorem ctlStep_pending {s t : State} (h : s.ctlStep = some t) : t.pending = s.pending := by
  unfold State.ctlStep at h
  split at h
  case h_1 =>
    split at h
    · cases h; rfl
    · contradiction
  case h_3 => exact recoveryStep_pending h
  case h_6 => exact commitStep_pending h
  case h_7 => exact rollbackStep_pending h
  case h_8 => exact discardStep_pending h
  case h_9 => exact formatStep_pending h
  case h_10 => exact clearingStep_pending h
  all_goals contradiction

theorem internalStep_pending {p : List Instr} (s t : State) (h : s.internalStep = some t) (hs : s.pending = p) :
    t.pending = p :=
  internalStep_keeps (P := fun u => u.pending = p) (fun _ hu => hu) (fun _ _ h hu => (ctlStep_pending h).trans hu)
    (fun _ _ h hu => (offerCkpt_pending h).trans hu) (fun _ _ h hu => (offerFallback_pending h).trans hu)
    (fun _ _ h hu => (headStep_pending h).trans hu) (fun _ _ h hu => (acceptStep_pending h).trans hu) h hs

@[simp] theorem finish_pending (s : State) (w : Bool) : (s.finish w).pending = s.pending :=
  finish_keeps (P := fun u => u.pending = s.pending) internalStep_pending (fun _ _ _ hu => hu) w s rfl

theorem event_pending {f : State → State} (hf : ∀ s, (f s).pending = s.pending) (s : State) :
    (s.event f).pending = s.pending :=
  event_keeps (P := fun u => u.pending = s.pending) internalStep_pending (fun _ _ _ hu => hu) s (fun _ => hf s) rfl

/-! ### The events of the front port, memory, time, halt and the lines -/

section
variable (s : State)

@[simp] theorem holdExpired_pending : s.holdExpired.pending = s.pending := by
  unfold State.holdExpired
  split <;> simp

@[simp] theorem saveReadOkay_pending (g t : Nat) (data : List Byte) : (s.saveReadOkay g t data).pending = s.pending := by
  unfold State.saveReadOkay
  simp only
  split <;> rfl

@[simp] theorem saveComplete_pending (t : Nat) : (s.saveComplete t).pending = s.pending := by simp [State.saveComplete]

@[simp] theorem ownOkay_pending (b : Bool) (data : List Byte) : (s.ownOkay b data).pending = s.pending := by
  cases b <;> simp [State.ownOkay]

@[simp] theorem requestResponse_pending (a : MemAnswer) : (s.requestResponse a).pending = s.pending := by
  unfold State.requestResponse
  split
  · split <;> simp
  · split
    · simp
    · split <;> simp
    · split <;> simp
    · split <;> simp

@[simp] theorem requesterDone_pending (r : Requester) : (s.requesterDone r).pending = s.pending := by
  unfold State.requesterDone
  split
  case h_6 => split <;> simp
  all_goals simp

@[simp] theorem requesterFailed_pending (r : Requester) : (s.requesterFailed r).pending = s.pending := by
  cases r <;> simp [State.requesterFailed]

@[simp] theorem updateDone_pending : s.updateDone.pending = s.pending := by
  unfold State.updateDone
  split <;> simp

@[simp] theorem updateFailed_pending : s.updateFailed.pending = s.pending := by
  unfold State.updateFailed
  split <;> simp

@[simp] theorem workFailed_pending (o : Owner) : (s.workFailed o).pending = s.pending := by
  cases o <;> simp [State.workFailed]

@[simp] theorem formatWorkDone_pending (o : Owner) (c : FormatCtx) : (s.formatWorkDone o c).pending = s.pending := by
  unfold State.formatWorkDone
  split <;> simp

@[simp] theorem workDone_pending (o : Owner) (bytes : List Byte) : (s.workDone o bytes).pending = s.pending := by
  unfold State.workDone
  split
  case h_2 => split <;> simp
  case h_5 => split <;> simp
  all_goals simp

@[simp] theorem controllerResponse_pending (a : MemAnswer) : (s.controllerResponse a).pending = s.pending := by
  unfold State.controllerResponse
  split
  · rfl
  · split
    · rfl
    · split
      · simp only
        split <;> simp
      · simp only
        split <;> simp

@[simp] theorem memoryResponded_pending (a : MemAnswer) : (s.memoryResponded a).pending = s.pending := by
  unfold State.memoryResponded
  split
  · rfl
  · simp only
    split <;> simp

@[simp] theorem autoExpired_pending : s.autoExpired.pending = s.pending := by
  unfold State.autoExpired
  split
  · rfl
  · rfl
  · split
    · simp
    · split <;> simp

@[simp] theorem retireEnded_pending : s.retireEnded.pending = s.pending := by
  unfold State.retireEnded
  split <;> rfl

@[simp] theorem clearEnded_pending : s.clearEnded.pending = s.pending := by
  unfold State.clearEnded
  split <;> rfl

@[simp] theorem beginHalt_pending : s.beginHalt.pending = s.pending := rfl

@[simp] theorem endHalt_pending : s.endHalt.pending = s.pending := rfl

@[simp] theorem ckptRequest_pending : s.ckptRequest.pending = s.pending := by
  unfold State.ckptRequest
  split
  · simp
  · split <;> simp

@[simp] theorem fallbackRequest_pending : s.fallbackRequest.pending = s.pending := by
  unfold State.fallbackRequest
  split
  · simp
  · split <;> simp

@[simp] theorem sampleLines_pending (ckpt fallback : Bool) : (s.sampleLines ckpt fallback).pending = s.pending := by
  unfold State.sampleLines
  simp only
  split
  · rfl
  · simp
  · simp
  · split <;> simp

@[simp] theorem qualify_pending (l : LineRun) : (s.qualify l).pending = s.pending := by
  unfold State.qualify
  simp only
  split
  · split <;> simp
  · split <;> simp

/-! ### The link commands -/

theorem linkCommand_pending {f : State → State} (hf : (f s).pending = s.pending) : (s.linkCommand f).pending = s.pending := by
  unfold State.linkCommand
  split
  · exact hf
  · rfl

@[simp] theorem runGetOpenEpoch_pending : s.runGetOpenEpoch.pending = s.pending := by
  unfold State.runGetOpenEpoch
  split <;> rfl

@[simp] theorem runGetDirectoryEntry_pending (k : Byte) : (s.runGetDirectoryEntry k).pending = s.pending := by
  unfold State.runGetDirectoryEntry
  split
  · rfl
  · split
    · rfl
    · split
      · rfl
      · split <;> rfl

@[simp] theorem runGetWindow_pending (table slot : Byte) : (s.runGetWindow table slot).pending = s.pending := by
  unfold State.runGetWindow
  split
  · rfl
  · split <;> rfl

@[simp] theorem runSetEventMask_pending (v : Half) : (s.runSetEventMask v).pending = s.pending := by
  unfold State.runSetEventMask
  split <;> rfl

@[simp] theorem runSetPolicy_pending (sel : Byte) (v : Half) : (s.runSetPolicy sel v).pending = s.pending := by
  unfold State.runSetPolicy
  split <;> rfl

@[simp] theorem runStageWindow_pending (slot : Byte) (base length : Word) (mode : Byte) :
    (s.runStageWindow slot base length mode).pending = s.pending := by
  unfold State.runStageWindow
  split
  · rfl
  · split <;> rfl

@[simp] theorem runClearWindow_pending (slot : Byte) : (s.runClearWindow slot).pending = s.pending := by
  unfold State.runClearWindow
  split
  · rfl
  · split <;> rfl

/-- A long operation's command keeps the commands waiting when its taking does. -/
theorem longCommand_pending (r : Result) (op : LongOp) {take : State → State} (ht : ∀ s, (take s).pending = s.pending) :
    (s.longCommand r op take).pending = s.pending := by
  unfold State.longCommand
  split
  · rw [finish_pending, ht]; rfl
  · rfl

@[simp] theorem runCommit_pending : s.runCommit.pending = s.pending := longCommand_pending s _ _ fun _ => rfl

@[simp] theorem runRollback_pending (c : Word) : (s.runRollback c).pending = s.pending := longCommand_pending s _ _ fun _ => rfl

@[simp] theorem runDiscard_pending (e : Word) : (s.runDiscard e).pending = s.pending :=
  longCommand_pending s _ _ fun t => takeDiscard_pending t e

@[simp] theorem runFormat_pending : s.runFormat.pending = s.pending := longCommand_pending s _ _ fun _ => rfl

@[simp] theorem runClearDamage_pending : s.runClearDamage.pending = s.pending := longCommand_pending s _ _ fun _ => rfl

/-! ### Frames -/

@[simp] theorem startFrame_pending : s.startFrame.pending = s.pending := by
  unfold State.startFrame
  split
  · rfl
  · split <;> rfl

@[simp] theorem endFrame_pending : s.endFrame.pending = s.pending := by
  unfold State.endFrame
  split <;> rfl

@[simp] theorem runFrame_pending (i : Instr) : (s.runFrame i).pending = s.pending := by
  unfold State.runFrame
  split <;> simp [State.runGetStatus, State.runGetIdentity, State.runReadEvents, State.runGetReport, State.runGetPolicy,
    State.runSetStamp, State.runGetStamp, State.runLinkReset, State.runUnknown]

@[simp] theorem afterByte_pending (code : Byte) (got : List Byte) : (s.afterByte code got).pending = s.pending := by
  unfold State.afterByte
  split
  · simp
  · split <;> simp

@[simp] theorem endByte_pending (mosi : Byte) : (s.endByte mosi).pending = s.pending := by
  unfold State.endByte
  split <;> simp

end

/-! ### Every command -/

/-- R28, R160, R179: an outcome is a next state, in which the commands waiting are `p`. -/
def AnswersNext (o : Host.Outcome State Fault Refusal) (p : List Instr) : Prop := ∃ t : State, o = .next t ∧ t.pending = p

/-- An event answers a next state when its own effect keeps the commands waiting. -/
theorem answersNext_event {f : State → State} (hf : ∀ s, (f s).pending = s.pending) (s : State) :
    AnswersNext (.next (s.event f)) s.pending :=
  ⟨_, rfl, event_pending hf s⟩

/-- A link command answers a next state when its execution keeps the commands waiting. -/
theorem answersNext_link (s : State) {f : State → State} (hf : (f s).pending = s.pending) :
    AnswersNext (.next (s.linkCommand f)) s.pending :=
  ⟨_, rfl, linkCommand_pending s hf⟩

theorem answersNext_haltBegin (s : State) : AnswersNext (execHaltBegin s) s.pending := by
  unfold execHaltBegin
  split
  · exact ⟨_, rfl, rfl⟩
  · exact answersNext_event beginHalt_pending s

theorem answersNext_haltEnd (s : State) : AnswersNext (execHaltEnd s) s.pending := by
  unfold execHaltEnd
  split
  · exact ⟨_, rfl, rfl⟩
  · exact answersNext_event endHalt_pending s

/-- What has its effect outside reset alone, with nothing coming about after it, keeps the commands waiting when its effect does. -/
theorem answersNext_live {f : State → State} (s : State) (hf : (f s).pending = s.pending) :
    AnswersNext (.next (s.live f)) s.pending := by
  refine ⟨_, rfl, ?_⟩
  unfold State.live
  split
  · rfl
  · exact hf

/-- Settles O2, command by command: each is an event, a link command or a change of the frame's or the pins' own state, and the
effect that it has keeps the commands waiting. -/
theorem everyCommandAnswersANextState : Obligations.EveryCommandAnswersANextState := by
  intro c s
  change AnswersNext (exec c s) s.pending
  cases c with
  | powerUp straps prst pfw cs raised => exact ⟨_, rfl, event_pending (fun _ => rfl) _⟩
  | prstAssert straps raised => exact ⟨_, rfl, rfl⟩
  | prstWithdraw => exact ⟨_, rfl, event_pending (fun _ => rfl) _⟩
  | requestAccept r => exact ⟨_, rfl, event_pending (fun _ => rfl) _⟩
  | holdExpiry => exact answersNext_event holdExpired_pending s
  | memoryResponse a => exact answersNext_event (memoryResponded_pending · a) s
  | commit => exact answersNext_link s (runCommit_pending s)
  | autoCommitExpiry => exact answersNext_event autoExpired_pending s
  | lineQualify l => exact answersNext_event (qualify_pending · l) s
  | rollback target => exact answersNext_link s (runRollback_pending s target)
  | discard upTo => exact answersNext_link s (runDiscard_pending s upTo)
  | format => exact answersNext_link s (runFormat_pending s)
  | clearDamage => exact answersNext_link s (runClearDamage_pending s)
  | retireSweepEnd => exact answersNext_event retireEnded_pending s
  | fullClearEnd => exact answersNext_event clearEnded_pending s
  | haltBegin => exact answersNext_haltBegin s
  | haltEnd => exact answersNext_haltEnd s
  | stampIncrement => exact answersNext_live s rfl
  | frameStart => exact ⟨_, rfl, startFrame_pending s⟩
  | frameEnd => exact ⟨_, rfl, endFrame_pending s⟩
  | getStatus => exact answersNext_link s rfl
  | getIdentity => exact answersNext_link s rfl
  | readEvents => exact answersNext_link s rfl
  | setEventMask value => exact answersNext_link s (runSetEventMask_pending s value)
  | getOpenEpoch => exact answersNext_link s (runGetOpenEpoch_pending s)
  | getDirectoryEntry k => exact answersNext_link s (runGetDirectoryEntry_pending s k)
  | getReport => exact answersNext_link s rfl
  | setPolicy selector value => exact answersNext_link s (runSetPolicy_pending s selector value)
  | getPolicy => exact answersNext_link s rfl
  | stageWindow slot base length mode => exact answersNext_link s (runStageWindow_pending s slot base length mode)
  | clearWindow slot => exact answersNext_link s (runClearWindow_pending s slot)
  | getWindow table slot => exact answersNext_link s (runGetWindow_pending s table slot)
  | setStamp value => exact answersNext_link s rfl
  | getStamp => exact answersNext_link s rfl
  | linkReset => exact answersNext_link s rfl
  | unknownCommand code => exact answersNext_link s rfl
  | lineSamplingEvent ckpt fallback => exact answersNext_event (sampleLines_pending · ckpt fallback) s
  | bytePositionEnd mosi => exact answersNext_live s (endByte_pending s mosi)

end Sys2Proof.Machine
end

section
/-! SUPPORT. ANCHOR_READ: while the anchor is read nothing inside an event moves but the front port, and the event on which the read
begins ends with the first granule's read at the port, or under halt with none (R13, R29, R137, R161, R167). -/

namespace Sys2Proof.Machine

/-! ### Steps that move the front port alone -/

/-- What an event leaves of `s` while the anchor is read: only the front port has moved, no head is in progress, no hold timer has
started where the limit is 0, and with nothing presented or queued the front port has not moved either. -/
structure FrontMoved (s t : State) : Prop where
  rest : t = { s with front := t.front }
  phase : t.front.phase = .waiting
  timer : s.link.policies.holdLimit = 0 → s.front.holdTimer = none → t.front.holdTimer = none
  still : s.front.presented = [] → s.front.queue = [] → t.front = s.front

theorem FrontMoved.refl {s : State} (h : s.front.phase = .waiting) : FrontMoved s s :=
  ⟨rfl, h, fun _ ht => ht, fun _ _ => rfl⟩

theorem FrontMoved.trans {r s t : State} (h : FrontMoved r s) (k : FrontMoved s t) : FrontMoved r t := by
  have hlink : s.link = r.link := by rw [h.rest]
  refine ⟨?_, k.phase, fun hlimit hnone => ?_, fun hp hq => ?_⟩
  · rw [k.rest, h.rest]
  · exact k.timer (by rw [hlink]; exact hlimit) (h.timer hlimit hnone)
  · have hfront := h.still hp hq
    exact (k.still (by rw [hfront]; exact hp) (by rw [hfront]; exact hq)).trans hfront

/-- R3: an answer to a waiting head moves the front port alone. -/
theorem respond_frontMoved {s : State} (st : Status) (data : List Byte) (hsave : s.save = .idle) (hq : s.front.queue ≠ []) :
    FrontMoved s (s.respond st data) := by
  unfold State.respond
  split
  case h_1 h => exact absurd h hq
  case h_2 => exact ⟨by rw [← hsave], rfl, fun _ _ => rfl, fun _ h => absurd h hq⟩

/-- R17: a head that begins to wait moves the front port alone, and with limit 0 starts no timer. -/
theorem beginWait_frontMoved {s : State} (r : HoldReason) (hphase : s.front.phase = .waiting) (hq : s.front.queue ≠ []) :
    FrontMoved s (s.beginWait r) :=
  ⟨rfl, hphase, fun hlimit hnone => by simp [State.beginWait, hlimit, hnone], fun _ h => absurd h hq⟩

/-- R2: an acceptance moves the front port alone. -/
theorem acceptStep_frontMoved {s t : State} (hphase : s.front.phase = .waiting) (h : s.acceptStep = some t) :
    FrontMoved s t := by
  unfold State.acceptStep at h
  split at h
  · contradiction
  · rename_i r rest hp
    split at h
    · cases h
      exact ⟨rfl, hphase, fun _ hnone => hnone, fun hnil _ => absurd hnil (by simp [hp])⟩
    · contradiction

/-! ### The steps inside an event in ANCHOR_READ -/

/-- R78, R116: in ANCHOR_READ no latch is taken and none is discarded. -/
theorem offerStep_of_anchorRead {s : State} (hs : s.jc.state = .anchorRead) : s.offerStep = none := by
  have hname : s.name = .anchorRead := congrArg Ctl.name hs
  have hckpt : s.offerCkpt = none := by simp [State.offerCkpt, State.canCommit, hname]
  have hfallback : s.offerFallback = none := by
    simp [State.offerFallback, State.canFallback, State.dropsFallback, hname]
  rw [State.offerStep, eitherFirst, hckpt, hfallback]

/-- R5, R13, R168: in ANCHOR_READ a waiting head is answered (HALTED, or OKAY for an empty mask), or begins to wait. -/
theorem headAction_of_anchorRead {s : State} (hs : s.jc.state = .anchorRead) (e : Entry) :
    (∃ st, s.headAction e = .answer st false) ∨ s.headAction e = .wait .anchorRead := by
  have hname : s.name = .anchorRead := congrArg Ctl.name hs
  unfold State.headAction
  split
  · exact Or.inl ⟨_, rfl⟩
  · split
    · exact Or.inl ⟨_, rfl⟩
    · rw [hname]
      exact Or.inr rfl

theorem headStep_frontMoved {s t : State} (hs : s.jc.state = .anchorRead) (hsave : s.save = .idle)
    (hphase : s.front.phase = .waiting) (h : s.headStep = some t) : FrontMoved s t := by
  unfold State.headStep at h
  split at h
  · contradiction
  · split at h
    · contradiction
    · rename_i e rest hqueue
      have hq : s.front.queue ≠ [] := by simp [hqueue]
      have hanswer (st : Status) : s.act (.answer st false) e = some (s.respond st []) := rfl
      split at h
      · rw [hanswer, Option.some.injEq] at h
        exact h ▸ respond_frontMoved _ _ hsave hq
      · rw [hsave] at h
        simp only at h
        rcases headAction_of_anchorRead hs e with ⟨st, ha⟩ | ha
        · rw [ha, hanswer, Option.some.injEq] at h
          exact h ▸ respond_frontMoved _ _ hsave hq
        · rw [ha, State.act] at h
          split at h
          · contradiction
          · rw [Option.some.injEq] at h
            exact h ▸ beginWait_frontMoved _ hphase hq

/-- With the anchor read begun, one step inside an event is a step of the front port. -/
theorem internalStep_frontMoved {s t : State} (hs : s.jc.state = .anchorRead) (hw : s.jc.work ≠ none) (hsave : s.save = .idle)
    (hphase : s.front.phase = .waiting) (h : s.internalStep = some t) : FrontMoved s t := by
  have hctl : s.ctlStep = none := by simp [State.ctlStep, hs, hw]
  have hfront : s.frontStep = some t := by
    rw [State.internalStep, hctl, eitherFirst, offerStep_of_anchorRead hs] at h
    cases hf : s.frontStep with
    | none => simp [hf] at h
    | some u => simpa [hf] using h
  rcases frontStep_some hfront with hhead | haccept
  · exact headStep_frontMoved hs hsave hphase hhead
  · exact acceptStep_frontMoved hphase haccept

/-- R13: with the anchor read begun, settling moves the front port alone. -/
theorem settleWith_frontMoved {r : State} (hs : r.jc.state = .anchorRead) (hw : r.jc.work ≠ none) (hsave : r.save = .idle)
    (hphase : r.front.phase = .waiting) (n : Nat) : FrontMoved r (State.settleWith n r) := by
  refine settleWith_keeps (P := FrontMoved r) (fun s t hstep hrs => ?_) n r (.refl hphase)
  refine hrs.trans (internalStep_frontMoved ?_ ?_ ?_ hrs.phase hstep)
  · rw [hrs.rest]; exact hs
  · rw [hrs.rest]; exact hw
  · rw [hrs.rest]; exact hsave

/-- R137: the first step inside an event begins the anchor read, and the others move the front port alone. -/
theorem settle_of_anchorRead {s : State} (hs : s.jc.state = .anchorRead) (hw : s.jc.work = none) (hsave : s.save = .idle)
    (hphase : s.front.phase = .waiting) : FrontMoved s.beginAnchorRead s.settle := by
  have hstep : s.internalStep = some s.beginAnchorRead := by
    simp [State.internalStep, State.ctlStep, hs, hw]
  have hsettle : s.settle =
      State.settleWith (63 + 16 * (s.front.queue.length + s.front.presented.length)) s.beginAnchorRead := by
    rw [State.settle, State.fuel, show 64 = 63 + 1 from rfl, Nat.add_right_comm, State.settleWith, hstep]
  rw [hsettle]
  exact settleWith_frontMoved (r := s.beginAnchorRead) hs (Option.some_ne_none _) hsave hphase _

/-! ### The event on which the anchor read begins -/

/-- R158: with no claim at the port nothing is granted. -/
theorem arbitrate_of_unclaimed {s : State} (w : Bool) (hreq : s.port.reqClaim = none) (hctl : s.port.ctlClaim = none) :
    s.arbitrate w = s := by
  simp [State.arbitrate, hreq, hctl]

/-- R158: a claim of the controller alone at a free port is granted. -/
theorem arbitrate_of_ctlClaim {s : State} {q : Request} (w : Bool) (hfree : s.port.inFlight = none)
    (hreq : s.port.reqClaim = none) (hctl : s.port.ctlClaim = some q) :
    s.arbitrate w =
      { s with port := { s.port with ctlClaim := none, inFlight := some (.controller, q), lastGrant := .controller } } := by
  simp [State.arbitrate, Port.grant, hfree, hreq, hctl]

/-- R137: the anchor read's first transaction reads the region's first granule. -/
theorem anchorReads_eq_cons (base : Nat) : ∃ rest, anchorReads base = .granuleRead (byteAddr base) :: rest := ⟨_, rfl⟩

/-- R137, R167: the port after the event: the read of the region's first granule is made, unless a halt is in force. -/
def State.anchorReadPort (s : State) : Port :=
  if s.lines.halt then s.port
  else { s.port with inFlight := some (.controller, .granuleRead (byteAddr s.base)), lastGrant := .controller }

theorem anchorReadPort_inFlight {s : State} (hfree : s.port.inFlight = none) : s.anchorReadPort.inFlight =
    if s.lines.halt then none else some (.controller, .granuleRead (byteAddr s.base)) := by
  unfold State.anchorReadPort
  split
  · exact hfree
  · rfl

/-- R156, R158: the controller's first read is claimed and granted at once at a port that is free and unclaimed. -/
theorem grant_first_anchor_read {s t : State} (w : Bool) (ht : FrontMoved s.beginAnchorRead t) (hreq : s.port.reqClaim = none)
    (hctl : s.port.ctlClaim = none) (hfree : s.port.inFlight = none) :
    t.raiseCtlClaim.arbitrate w = { s.beginAnchorRead with front := t.front, port := s.anchorReadPort } := by
  obtain ⟨rest, hreads⟩ := anchorReads_eq_cons s.base
  have hrest : t = { s.beginAnchorRead with front := t.front } := ht.rest
  have hwork : t.jc.work = some { owner := .anchorRead, todo := .granuleRead (byteAddr s.base) :: rest, got := [] } := by
    rw [hrest, ← hreads]; rfl
  have hport : t.port = s.port := by rw [hrest]; rfl
  have hlines : t.lines = s.lines := by rw [hrest]; rfl
  cases hhalt : s.lines.halt
  · have hraise : t.raiseCtlClaim = { t with port.ctlClaim := some (.granuleRead (byteAddr s.base)) } := by
      simp [State.raiseCtlClaim, hwork, hport, hlines, hhalt, Port.ctlOutstanding, hctl, hfree]
    have hgranted : { t.port with ctlClaim := none, inFlight := some (.controller, .granuleRead (byteAddr s.base)),
                                  lastGrant := .controller } = s.anchorReadPort := by
      simp [State.anchorReadPort, hhalt, hport, hctl]
    rw [hraise, arbitrate_of_ctlClaim (q := .granuleRead (byteAddr s.base)) w (by rw [← hfree, ← hport])
      (by rw [← hreq, ← hport]) rfl, ← hgranted, hrest]
  · have hraise : t.raiseCtlClaim = t := by simp [State.raiseCtlClaim, hlines, hhalt]
    have hwaits : s.anchorReadPort = t.port := by rw [State.anchorReadPort, hhalt, if_pos rfl, hport]
    rw [hraise, arbitrate_of_unclaimed w (by rw [hport, hreq]) (by rw [hport, hctl]), hwaits, hrest]

/-- R137: an event that finds ANCHOR_READ with its read not begun, the port free and no head in progress, and that has no effect of
its own, begins the anchor read; besides that only the front port moves. -/
theorem finish_of_anchorRead {s : State} (w : Bool) (hs : s.jc.state = .anchorRead) (hw : s.jc.work = none)
    (hphase : s.front.phase = .waiting) (hsave : s.save = .idle) (hreq : s.port.reqClaim = none)
    (hctl : s.port.ctlClaim = none) (hfree : s.port.inFlight = none) :
    ∃ t, FrontMoved s.beginAnchorRead t ∧
      s.finish w = { s.beginAnchorRead with front := t.front, port := s.anchorReadPort } := by
  have hsettle := settle_of_anchorRead hs hw hsave hphase
  exact ⟨_, hsettle, grant_first_anchor_read w hsettle hreq hctl hfree⟩

/-! ### POWER_UP and PRST_N_WITHDRAW -/

/-- R29, R173: what a reset leaves, with the flags raised after it on the same event. -/
def State.poweredUp (straps : Straps) (prst pfw cs : Bool) (raised : BitVec 12) (s : State) : State :=
  (s.afterReset straps prst pfw cs).raiseAll raised

/-- R29, R137: POWER_UP leaves the reset values; with PRST_N high the anchor read has begun, and a request kept presented may have
moved the front port. -/
theorem exec_powerUp (straps : Straps) (prst pfw cs : Bool) (raised : BitVec 12) (s : State) :
    ∃ f : FrontPort, f.phase = .waiting ∧ f.holdTimer = none ∧
      (s.front.presented = [] → f = { presented := [], queue := [], phase := .waiting, holdTimer := none, holdReason := none,
                                      responses := s.front.responses }) ∧
      exec (.powerUp straps prst pfw cs raised) s = .next
        { s.poweredUp straps prst pfw cs raised with
          front := f
          jc.work := if prst then none
            else some { owner := .anchorRead, todo := anchorReads (regionBase straps.jbase), got := [] }
          port := if prst then State.reset.port else (s.poweredUp straps prst pfw cs raised).anchorReadPort } := by
  have hexec : exec (.powerUp straps prst pfw cs raised) s =
      .next ((s.poweredUp straps prst pfw cs raised).event id) := rfl
  have hpresented (h : s.front.presented = []) :
      (s.poweredUp straps prst pfw cs raised).front =
        { presented := [], queue := [], phase := .waiting, holdTimer := none, holdReason := none,
          responses := s.front.responses } := by
    simp [State.poweredUp, State.afterReset, State.reset, h]
  rw [hexec]
  cases prst
  · rw [event_of_live rfl]
    obtain ⟨t, ht, hfinish⟩ := finish_of_anchorRead (s := s.poweredUp straps false pfw cs raised)
      (s.poweredUp straps false pfw cs raised).claimWaits rfl rfl rfl rfl rfl rfl rfl
    refine ⟨t.front, ht.phase, ht.timer rfl rfl, fun h => ?_, congrArg _ hfinish⟩
    rw [ht.still h rfl]
    exact hpresented h
  · exact ⟨_, rfl, rfl, hpresented, rfl⟩

/-- Settles O5: POWER_UP is `exec_powerUp`, whose fields are the reset values, and PRST_N_WITHDRAW is the event of
`finish_of_anchorRead`. -/
theorem powerUpAndWithdrawalBeginTheAnchorRead : Obligations.PowerUpAndWithdrawalBeginTheAnchorRead := by
  refine ⟨fun jb js prst pfw cs raised s => ?_, fun s hs hw hphase hsave hreq hctl hfree => ?_⟩
  · obtain ⟨f, hphase, htimer, hfront, hexec⟩ := exec_powerUp { jbase := jb, jsize := js } prst pfw cs raised s
    refine ⟨_, hexec, rfl, rfl, rfl, rfl, rfl, rfl, rfl, rfl, rfl, rfl, rfl, rfl, htimer, hphase, rfl, rfl, rfl, rfl, rfl, rfl, rfl,
      rfl, rfl, BitVec.zero_or, rfl, rfl, rfl, rfl, rfl, rfl, rfl, rfl, fun hpresented => ⟨hfront hpresented, rfl, ?_⟩⟩
    cases prst <;> cases pfw <;> rfl
  · obtain ⟨t, ht, hfinish⟩ := finish_of_anchorRead (s := { s with inReset := false }) s.claimWaits hs hw hphase hsave hreq
      hctl hfree
    refine ⟨_, congrArg Host.Outcome.next ((event_of_live rfl id).trans hfinish), rfl, hs, rfl, ?_⟩
    exact anchorReadPort_inFlight hfree

end Sys2Proof.Machine
end

section
/-! SUPPORT. The law of the ring (R52, R55, R104) as propositions: what it asks of the ring, of the transfer under way and of the save in each
state of the controller, that this is the law the model tests, and the ring's own moves. -/

namespace Sys2Proof.Machine

/-! ### The law in plain words -/

/-- What the law of the ring reads of the ring: the open epoch's number and pre-images, the entries listed, occupancy and capacity. -/
structure RingView where
  epoch : Option (Word × Nat)
  entries : List DirEntry
  used : Nat
  slots : Nat

/-- R52, R104: the ring of a state. -/
def State.ring (s : State) : RingView where
  epoch := s.jc.epoch.map fun e => (e.number, e.preImages)
  entries := s.jc.directory
  used := s.jc.occupancy
  slots := s.capacity

/-- The open epoch's number, 0 when the record is absent. -/
def RingView.number (r : RingView) : Word := (r.epoch.map Prod.fst).getD 0

/-- The open epoch's pre-images, 0 when the record is absent. -/
def RingView.preImages (r : RingView) : Nat := (r.epoch.map Prod.snd).getD 0

/-- The slots of the entries listed. -/
def RingView.listed (r : RingView) : Nat := slotTotal r.entries

/-- R52, R104: what is so in every state but where the open epoch's own entry is listed. -/
structure RingView.Sound (r : RingView) : Prop where
  fits : r.used ≤ r.slots
  rising : directoryRising r.entries = true
  below : r.epoch.isSome = true → ∀ d ∈ r.entries, d.number < r.number

/-- R52, R55, R104: the ring while an epoch is open. -/
structure RingView.Open (r : RingView) : Prop where
  rising : directoryRising r.entries = true
  below : ∀ d ∈ r.entries, d.number < r.number
  present : r.epoch.isSome = true
  counted : r.used = r.listed + r.preImages
  free : r.used < r.slots

/-- R52, R104: the ring with the open epoch's entry listed, or with the open epoch truncated. -/
structure RingView.Filled (r : RingView) : Prop where
  rising : directoryRising r.entries = true
  upTo : ∀ d ∈ r.entries, d.number ≤ r.number
  counted : r.used = r.listed
  fits : r.used ≤ r.slots

/-- R52, R55, R104: the ring while an operation waits to open the next epoch. -/
structure RingView.Closed (r : RingView) : Prop extends RingView.Filled r where
  free : r.used < r.slots

/-- R140: the ring during the scan, with `n` pre-images found. -/
structure RingView.Scanned (n : Nat) (r : RingView) : Prop extends RingView.Sound r where
  present : r.epoch.isSome = true
  found : r.preImages = n
  room : r.listed + n < r.slots

/-- R141, R144: the ring during a replay of recovery, with `n` COMMIT records of the open epoch. -/
structure RingView.Replayed (n : Nat) (r : RingView) : Prop extends RingView.Sound r where
  present : r.epoch.isSome = true
  counted : r.used = r.listed + r.preImages + n
  room : r.listed < r.slots

/-- What the law asks of the ring in each state of the controller. -/
def Ctl.Allows (r : RingView) : Ctl → Prop
  | .anchorRead => r.Sound
  | .unformatted => r.Sound
  | .recovering c =>
    match c.step with
    | .scan n _ => r.Scanned n ∧ r.number = c.openNumber ∧ c.found = none
    | .replay _ _ => r.Replayed c.commits ∧ r.number = c.openNumber
    | .tagWait k => r.Closed ∧ r.epoch.isSome = true ∧ r.number = c.openNumber ∧ (k ≠ .forward → r.Sound)
    | .anchor _ => r.Open
  | .opened => r.Open
  | .unguarded => r.Open
  | .committing c =>
    match c.step with
    | .drain => r.Open
    | .record i => r.Open ∧ i.preImages = r.preImages
    | .tagWait => r.Closed ∧ r.epoch.isSome = true
    | .anchor => r.Open
  | .rollingBack c =>
    match c.step with
    | .drain => r.Open ∧ r.number = c.openNumber
    | .intent => r.Open ∧ r.number = c.openNumber
    | .replay _ => r.Open ∧ r.number = c.openNumber
    | .tagWait => r.Closed ∧ r.epoch.isSome = true ∧ r.number = c.openNumber ∧ r.Sound
    | .anchor => r.Open
  | .discarding c => r.Open ∧ c.freed = slotTotal (r.entries.take c.count)
  | .formatting c =>
    match c.step with
    | .headWait => r.Sound
    | .scrub _ => r.Sound
    | .invalidate0 => r.Sound
    | .invalidate1 => r.Sound
    | .slot0 => r.Sound
    | .apply => r.Open
    | .clear => r.Open
  | .clearing c =>
    match c.step with
    | .headWait => r.Sound
    | .clear => r.Closed ∧ r.entries = []
    | .apply => r.Open
    | .anchor => r.Open
  | .damaged _ => r.Sound

/-- R57, R58: the states in which the update of a reclaim may run. -/
def Ctl.reclaims : Ctl → Bool
  | .opened => true
  | .committing c => c.beforeWrites
  | .rollingBack c => c.step == .drain
  | _ => false

/-- R60, log 19: the states in which the update of an unguard may run. -/
def Ctl.unguards : Ctl → Bool
  | .opened => true
  | .unguarded => true
  | .committing c => c.beforeWrites
  | .rollingBack c => c.step == .drain
  | .discarding _ => true
  | .formatting c => c.step == .headWait
  | _ => false

/-- R103: the requester whose update runs in a state of the controller. -/
inductive Ctl.Serves (room : Option RoomOp) : Requester → Ctl → Prop
  | reclaim {k : Ctl} (hk : k.reclaims = true) (hr : room = some .reclaim) : Serves room .reclaim k
  | unguard {k : Ctl} (hk : k.unguards = true) (hr : room = some .unguard) : Serves room .unguard k
  | commit {c : CommitCtx} (h : c.step = .anchor) : Serves room .commit (.committing c)
  | intent {c : RollbackCtx} (h : c.step = .intent) : Serves room .intent (.rollingBack c)
  | completion {c : RollbackCtx} (h : c.step = .anchor) : Serves room .completion (.rollingBack c)
  | recovery {c : RecoveryCtx} {k : Course} (h : c.step = .anchor k) : Serves room .recovery (.recovering c)
  | discard {c : DiscardCtx} (hr : room = none) : Serves room .discard (.discarding c)
  | clearing {c : ClearCtx} (h : c.step = .anchor) : Serves room .clearing (.clearing c)

/-- R157: the transfer that a state of the controller calls for, by its owner; `req` is the requester of the update that is being
written. -/
inductive Ctl.Calls (room : Option RoomOp) (req : Option Requester) : Owner → Ctl → Prop
  | anchorRead : Calls room req .anchorRead .anchorRead
  | scan {c : RecoveryCtx} {n slot : Nat} (h : c.step = .scan n slot) : Calls room req .scan (.recovering c)
  | replayRead {k : Ctl} {w : Walk} (hw : k.walk = some w) (hl : 1 ≤ w.left) : Calls room req .replayRead k
  | replayWrite {k : Ctl} {w : Walk} (hw : k.walk = some w) (hl : 1 ≤ w.left) : Calls room req .replayWrite k
  | commitRecord {c : CommitCtx} {i : CommitInfo} (h : c.step = .record i) (hr : room = none) :
      Calls room req .commitRecord (.committing c)
  | scrub {c : FormatCtx} {n : Nat} (h : c.step = .scrub n) : Calls room req .scrub (.formatting c)
  | invalidate0 {c : FormatCtx} (h : c.step = .invalidate0) : Calls room req .invalidate0 (.formatting c)
  | invalidate1 {c : FormatCtx} (h : c.step = .invalidate1) : Calls room req .invalidate1 (.formatting c)
  | slot0 {c : FormatCtx} (h : c.step = .slot0) : Calls room req .slot0 (.formatting c)
  | update {k : Ctl} {r : Requester} (hr : req = some r) (hs : k.Serves room r) : Calls room req .update k

/-- R83, R120: a commit or a rollback past its first step. -/
def Ctl.pastDrain : Ctl → Bool
  | .committing c => decide (c.step ≠ .drain)
  | .rollingBack c => decide (c.step ≠ .drain)
  | _ => false

/-- R65: a save past its free test. -/
def Save.active : Save → Bool
  | .idle => false
  | .room _ _ => false
  | .read _ _ => true
  | .record .. => true

/-- Whether the head is marked. -/
def State.headMarked (s : State) : Bool :=
  match s.front.queue with
  | [] => false
  | e :: _ => e.marked

/-- R55, R83, R120: the saves that a state of the controller admits for a head with the mark `marked`. -/
def Ctl.Admits (v : Save) (marked : Bool) : Ctl → Prop
  | .anchorRead => v.active = false
  | .unformatted => v.active = false
  | .recovering _ => v.active = false
  | .opened => True
  | .unguarded => True
  | .committing c => v = .idle ∨ c.step = .drain ∧ marked = true
  | .rollingBack c => v = .idle ∨ c.step = .drain ∧ marked = true
  | .discarding _ => True
  | .formatting c => v.active = false ∨ c.step = .headWait
  | .clearing c => v.active = false ∨ c.step = .headWait
  | .damaged _ => True

/-- The law of the ring and the directory, with what the port's discipline adds to it: a save is for a head. -/
structure State.Lawful (s : State) : Prop where
  ring : s.jc.state.Allows s.ring
  work : ∀ o ∈ s.jc.work.map Work.owner, s.jc.state.Calls s.jc.room (s.anchor.active.map AnchorWrite.requester) o
  drained : s.jc.state.pastDrain = true → s.noneMarked = true
  reserve : s.save.active = true → s.ring.used + 2 ≤ s.ring.slots
  admitted : s.jc.state.Admits s.save s.headMarked
  headed : s.save ≠ .idle → s.front.queue ≠ []

/-! ### The law is the one the model tests -/

theorem RingView.sound_iff (r : RingView) : r.Sound ↔ r.used ≤ r.slots ∧ directoryRising r.entries = true ∧
    (r.epoch.isSome = true → ∀ d ∈ r.entries, d.number < r.number) :=
  ⟨fun ⟨a, b, c⟩ => ⟨a, b, c⟩, fun ⟨a, b, c⟩ => ⟨a, b, c⟩⟩

theorem RingView.open_iff (r : RingView) : r.Open ↔
    directoryRising r.entries = true ∧ (∀ d ∈ r.entries, d.number < r.number) ∧
    r.epoch.isSome = true ∧ r.used = r.listed + r.preImages ∧ r.used < r.slots :=
  ⟨fun ⟨a, b, c, d, e⟩ => ⟨a, b, c, d, e⟩, fun ⟨a, b, c, d, e⟩ => ⟨a, b, c, d, e⟩⟩

theorem RingView.closed_iff (r : RingView) : r.Closed ↔
    directoryRising r.entries = true ∧ (∀ d ∈ r.entries, d.number ≤ r.number) ∧
    r.used = r.listed ∧ r.used < r.slots :=
  ⟨fun ⟨⟨a, b, c, _⟩, e⟩ => ⟨a, b, c, e⟩, fun ⟨a, b, c, e⟩ => ⟨⟨a, b, c, e.le⟩, e⟩⟩

theorem RingView.scanned_iff (n : Nat) (r : RingView) : r.Scanned n ↔ r.Sound ∧ r.epoch.isSome = true ∧ r.preImages = n ∧
    r.listed + n < r.slots :=
  ⟨fun ⟨a, b, c, d⟩ => ⟨a, b, c, d⟩, fun ⟨a, b, c, d⟩ => ⟨a, b, c, d⟩⟩

theorem RingView.replayed_iff (n : Nat) (r : RingView) : r.Replayed n ↔ r.Sound ∧ r.epoch.isSome = true ∧
    r.used = r.listed + r.preImages + n ∧ r.listed < r.slots :=
  ⟨fun ⟨a, b, c, d⟩ => ⟨a, b, c, d⟩, fun ⟨a, b, c, d⟩ => ⟨a, b, c, d⟩⟩

theorem ring_number (s : State) : s.ring.number = s.openNumber := by
  simp [State.ring, RingView.number, State.openNumber, Function.comp_def]

theorem ring_preImages (s : State) : s.ring.preImages = s.openPreImages := by
  simp [State.ring, RingView.preImages, State.openPreImages, Function.comp_def]

theorem ring_present (s : State) : s.ring.epoch.isSome = s.jc.epoch.isSome := by simp [State.ring]

/-- R104: the order of the directory, apart from where the open epoch's own entry may be listed. -/
theorem directoryOrdered_iff (s : State) : s.directoryOrdered = true ↔ directoryRising s.jc.directory = true ∧
    (s.jc.epoch.isSome = true →
      ∀ d ∈ s.jc.directory, d.number < s.openNumber ∨ s.openListed = true ∧ d.number = s.openNumber) := by
  unfold State.directoryOrdered State.openNumber
  cases s.jc.epoch <;> simp


theorem allows_iff (s : State) :
    (s.ringCounted = true ∧ s.ringBounded = true ∧ s.directoryOrdered = true ∧ s.epochPlaced = true) ↔
      s.jc.state.Allows s.ring := by
  rw [directoryOrdered_iff]
  unfold State.ringCounted State.ringBounded State.epochPlaced
  rw [← ring_number, ← ring_preImages, ← ring_present]
  have hlisted : s.ring.listed = slotTotal s.jc.directory := rfl
  have hentries : s.ring.entries = s.jc.directory := rfl
  have hused : s.ring.used = s.jc.occupancy := rfl
  have hslots : s.ring.slots = s.capacity := rfl
  have hempty : slotTotal [] = 0 := rfl
  have hrising : directoryRising [] = true := rfl
  cases hk : s.jc.state
  case recovering c | committing c | rollingBack c | formatting c | clearing c =>
    cases hc : c.step <;>
    simp [State.reserveHeld, State.openListed, hk, hc, Ctl.Allows, RingView.scanned_iff, RingView.replayed_iff, RingView.sound_iff,
      RingView.closed_iff, RingView.open_iff, hlisted, hentries, hused, hslots] <;> grind
  all_goals
    simp [State.reserveHeld, State.openListed, hk, Ctl.Allows, RingView.sound_iff, RingView.open_iff, hlisted, hentries, hused,
      hslots] <;> grind


/-- R103: the part of the law on transfers that speaks of an update. -/
theorem serves_iff (s : State) {w : Work} (hw : s.jc.work = some w) (ho : w.owner = .update) : s.workPlaced = true ↔
    ∃ r, s.anchor.active.map AnchorWrite.requester = some r ∧ s.jc.state.Serves s.jc.room r := by
  unfold State.workPlaced
  cases ha : s.anchor.active with
  | none => simp [hw, ho]
  | some a =>
    simp only [hw, ho, Option.map_some, Option.some.injEq, exists_eq_left']
    generalize a.requester = r, s.jc.state = k
    constructor
    · intro h
      cases r <;> cases k <;> simp at h
      case reclaim.opened | unguard.opened | unguard.unguarded | unguard.discarding => 
        constructor <;> trivial
      case reclaim.committing | unguard.committing => constructor; exacts [h.2, h.1]
      case reclaim.rollingBack | unguard.rollingBack | unguard.formatting => 
        constructor; exacts [beq_iff_eq.2 h.2, h.1]
      case commit.committing => exact .commit h
      case intent.rollingBack => exact .intent h
      case completion.rollingBack => exact .completion h
      case discard.discarding => exact .discard h
      case clearing.clearing => exact .clearing h
      case recovery.recovering c => 
        cases hc : c.step <;> simp [hc] at h
        exact .recovery hc
    · intro h
      cases h with
      | reclaim hk hr => cases k <;> simp_all [Ctl.reclaims]
      | unguard hk hr => cases k <;> simp_all [Ctl.unguards]
      | commit h | intent h | completion h | recovery h | discard h | clearing h => simp [h]

theorem calls_iff (s : State) : s.workPlaced = true ↔
    ∀ o ∈ s.jc.work.map Work.owner, s.jc.state.Calls s.jc.room (s.anchor.active.map AnchorWrite.requester) o := by
  cases hw : s.jc.work with
  | none => simp [State.workPlaced, hw]
  | some w =>
    simp only [Option.map_some, Option.mem_some_iff, forall_eq']
    constructor
    · intro h
      cases ho : w.owner
      case update =>
        obtain ⟨r, hr, hs⟩ := (serves_iff s hw ho).1 h
        exact .update hr hs
      case replayRead | replayWrite =>
        cases hk : s.jc.state.walk <;> simp [State.workPlaced, hw, ho, hk] at h
        constructor <;> assumption
      all_goals cases hk : s.jc.state <;> simp [State.workPlaced, hw, ho, hk] at h
      case anchorRead => exact .anchorRead
      case scan.recovering c => cases hc : c.step <;> simp [hc] at h; exact .scan hc
      case commitRecord.committing c => cases hc : c.step <;> simp [hc] at h; exact .commitRecord hc h
      case scrub.formatting c => cases hc : c.step <;> simp [hc] at h; exact .scrub hc
      case invalidate0.formatting => exact .invalidate0 h
      case invalidate1.formatting => exact .invalidate1 h
      case slot0.formatting => exact .slot0 h
    · intro h
      generalize ho : w.owner = o, hk : s.jc.state = k at h
      cases h with
      | update hr hs => exact (serves_iff s hw ho).2 ⟨_, hr, hk ▸ hs⟩
      | anchorRead => simp [State.workPlaced, hw, ho, hk]
      | replayRead h hl | replayWrite h hl | commitRecord h hl =>
        simp [State.workPlaced, hw, ho, hk, h, hl]
      | scan h | scrub h | invalidate0 h | invalidate1 h | slot0 h => simp [State.workPlaced, hw, ho, hk, h]

theorem savePlaced_iff (s : State) : s.savePlaced = true ↔
    (s.save.active = true → s.ring.used + 2 ≤ s.ring.slots) ∧ s.jc.state.Admits s.save s.headMarked := by
  have hused : s.ring.used = s.jc.occupancy := rfl
  have hslots : s.ring.slots = s.capacity := rfl
  unfold State.savePlaced State.headMarked
  cases hq : s.front.queue <;> cases hv : s.save <;> cases hk : s.jc.state <;>
    simp [Save.active, Ctl.Admits, hused, hslots]

theorem drained_iff (s : State) : s.drained = true ↔ (s.jc.state.pastDrain = true → s.noneMarked = true) := by
  unfold State.drained
  cases s.jc.state <;> simp [Ctl.pastDrain] <;> tauto

/-! ### Moves of the ring -/

theorem directoryRising_iff (ds : List DirEntry) : directoryRising ds = true ↔
    ds.Pairwise (fun x y => x.number < y.number) ∧ ∀ d ∈ ds, 1 ≤ d.slots := by
  simp [directoryRising]

theorem directoryRising_sublist {ds es : List DirEntry} (hsub : es.Sublist ds) (h : directoryRising ds = true) :
    directoryRising es = true := by
  rw [directoryRising_iff] at h ⊢
  exact ⟨h.1.sublist hsub, fun d hd => h.2 d (hsub.subset hd)⟩

theorem directoryRising_append {ds : List DirEntry} {d : DirEntry} (h : directoryRising ds = true)
    (hbelow : ∀ x ∈ ds, x.number < d.number) (hd : 1 ≤ d.slots) : directoryRising (ds ++ [d]) = true := by
  rw [directoryRising_iff] at h ⊢
  obtain ⟨hpairs, hslots⟩ := h
  refine ⟨List.pairwise_append.2 ⟨hpairs, List.pairwise_singleton _ _, by simpa using hbelow⟩, fun x hx => ?_⟩
  rcases List.mem_append.1 hx with hx | hx
  · exact hslots x hx
  · rwa [List.mem_singleton.1 hx]

theorem slotTotal_cons (d : DirEntry) (ds : List DirEntry) : slotTotal (d :: ds) = d.slots + slotTotal ds := by
  simp [slotTotal]

theorem slotTotal_append (ds es : List DirEntry) : slotTotal (ds ++ es) = slotTotal ds + slotTotal es := by
  simp [slotTotal]

/-- The entries numbered `c` and above and those below it are all the entries. -/
theorem slotTotal_filter_add (c : Word) (ds : List DirEntry) :
    slotTotal (ds.filter fun d => c ≤ d.number) + slotTotal (ds.filter fun d => d.number < c) = slotTotal ds := by
  induction ds with
  | nil => rfl
  | cons d ds ih =>
    by_cases h : c ≤ d.number
    · have h' : ¬d.number < c := BitVec.not_lt.2 h
      simp [h, h', slotTotal_cons, ← ih, Nat.add_assoc]
    · have h' : d.number < c := BitVec.not_le.1 h
      simp [h, h', slotTotal_cons, ← ih, Nat.add_left_comm]

theorem slotTotal_take_add_drop (n : Nat) (ds : List DirEntry) :
    slotTotal (ds.take n) + slotTotal (ds.drop n) = slotTotal ds := by
  rw [← slotTotal_append, List.take_append_drop]

theorem ringCapacity_pos (jsize : BitVec 3) : 0 < ringCapacity jsize := by
  revert jsize
  decide

theorem slots_pos (s : State) : 0 < s.ring.slots := ringCapacity_pos s.jsize

theorem RingView.Open.sound {r : RingView} (h : r.Open) : r.Sound :=
  ⟨h.free.le, h.rising, fun _ => h.below⟩

theorem RingView.Open.replayed {r : RingView} (h : r.Open) : r.Replayed 0 :=
  ⟨h.sound, h.present, h.counted, by have := h.counted; have := h.free; omega⟩

theorem RingView.Scanned.listed_lt {n : Nat} {r : RingView} (h : r.Scanned n) : r.listed < r.slots :=
  Nat.lt_of_le_of_lt (Nat.le_add_right _ n) h.room

/-- R53: the oldest entry dropped. -/
def RingView.drop (r : RingView) : RingView :=
  match r.entries with
  | [] => r
  | d :: ds => { r with entries := ds, used := r.used - d.slots }

theorem dropOldest_ring (s : State) : s.dropOldest.ring = s.ring.drop := by
  unfold State.dropOldest RingView.drop
  cases h : s.jc.directory <;> simp [State.ring, State.capacity, h]

theorem RingView.Open.drop {r : RingView} (h : r.Open) : r.drop.Open := by
  unfold RingView.drop
  split
  · exact h
  · rename_i d ds he
    obtain ⟨hrising, hbelow, hpresent, hcounted, hfree⟩ := h
    rw [RingView.listed, he, slotTotal_cons] at hcounted
    rw [he] at hrising hbelow
    refine ⟨directoryRising_sublist (List.sublist_cons_self d ds) hrising, fun x hx => hbelow x (List.mem_cons_of_mem _ hx),
      hpresent, ?_, Nat.lt_of_le_of_lt (Nat.sub_le _ _) hfree⟩
    show r.used - d.slots = slotTotal ds + r.preImages
    omega

theorem RingView.Filled.drop {r : RingView} (h : r.Filled) : r.drop.Filled := by
  unfold RingView.drop
  split
  · exact h
  · rename_i d ds he
    obtain ⟨hrising, hupTo, hcounted, hfits⟩ := h
    rw [RingView.listed, he, slotTotal_cons] at hcounted
    rw [he] at hrising hupTo
    refine ⟨directoryRising_sublist (List.sublist_cons_self d ds) hrising, fun x hx => hupTo x (List.mem_cons_of_mem _ hx),
      ?_, (Nat.sub_le _ _).trans hfits⟩
    show r.used - d.slots = slotTotal ds
    omega

@[simp] theorem RingView.drop_epoch (r : RingView) : r.drop.epoch = r.epoch := by
  unfold RingView.drop
  split <;> rfl

@[simp] theorem RingView.drop_slots (r : RingView) : r.drop.slots = r.slots := by
  unfold RingView.drop
  split <;> rfl

/-- R89: an entry dropped gives up at least its COMMIT record's slot. -/
theorem RingView.Filled.drop_free {r : RingView} (h : r.Filled) (hpos : 0 < r.slots) : r.drop.used < r.slots := by
  obtain ⟨hrising, -, hcounted, hfits⟩ := h
  unfold RingView.drop
  split
  · rename_i he
    rw [RingView.listed, he] at hcounted
    have : slotTotal [] = 0 := rfl
    omega
  · rename_i d ds he
    have hslots : 1 ≤ d.slots := ((directoryRising_iff _).1 hrising).2 d (by rw [he]; exact List.mem_cons_self)
    show r.used - d.slots < r.slots
    omega

/-- R87 to R89, R146: the entry of the epoch closed is appended, and the drops leave a slot free. -/
theorem closeEpoch_ring {s : State} {d : DirEntry}
    (h : RingView.Filled { s.ring with entries := s.jc.directory ++ [d] }) :
    (s.closeEpoch d).ring.Closed ∧ (s.closeEpoch d).ring.epoch = s.ring.epoch := by
  have hover : (s.appendEntry d).overflowDrop.ring.Filled ∧ (s.appendEntry d).overflowDrop.ring.epoch = s.ring.epoch := by
    unfold State.overflowDrop
    split
    · rw [dropOldest_ring]
      exact ⟨h.drop, RingView.drop_epoch _⟩
    · exact ⟨h, rfl⟩
  obtain ⟨hfilled, hepoch⟩ := hover
  unfold State.closeEpoch State.forcedDrop
  split
  case isTrue =>
    rw [dropOldest_ring]
    refine ⟨⟨hfilled.drop, ?_⟩, (RingView.drop_epoch _).trans hepoch⟩
    rw [RingView.drop_slots]
    exact hfilled.drop_free (slots_pos _)
  case isFalse hfree =>
    refine ⟨⟨hfilled, ?_⟩, hepoch⟩
    have := hfilled.fits
    change ¬(s.appendEntry d).overflowDrop.ring.slots - (s.appendEntry d).overflowDrop.ring.used = 0 at hfree
    omega

/-- R31, R32: the next epoch opened on a closed ring. -/
theorem openEpoch_ring {s : State} {m : Word} (b : Bool) (h : s.ring.Closed) (hm : epochAfter s.ring.number = some m) :
    (s.openEpoch m b).ring.Open := by
  have hnext : ∀ d ∈ s.jc.directory, d.number < m := by
    intro d hd
    have hle : d.number ≤ s.ring.number := h.upTo d hd
    unfold epochAfter at hm
    split at hm
    · contradiction
    · rename_i hlast
      cases hm
      have hstep := toNat_next_epoch hlast
      rw [BitVec.le_def] at hle
      rw [BitVec.lt_def]
      omega
  exact ⟨h.rising, hnext, rfl, h.counted, h.free⟩

/-- R128: truncation to the first slot of an epoch leaves the entries below it, and their slots. -/
theorem truncate_ring {s : State} {n : Nat} (c : Word) (h : s.ring.Replayed n) :
    (s.truncate c n).ring.Closed ∧ (s.truncate c n).ring.Sound := by
  obtain ⟨⟨hfits, hrising, hbelow⟩, hpresent, hcounted, hroom⟩ := h
  have hsub : (s.jc.directory.filter fun d => d.number < c).Sublist s.jc.directory := List.filter_sublist
  have hsplit := slotTotal_filter_add c s.jc.directory
  have hused : (s.truncate c n).ring.used = slotTotal (s.jc.directory.filter fun d => d.number < c) := by
    change s.jc.occupancy = slotTotal s.jc.directory + s.ring.preImages + n at hcounted
    rw [ring_preImages, State.openPreImages] at hcounted
    show s.jc.occupancy - s.replaySpan c n = _
    rw [State.replaySpan]
    omega
  have hfree : (s.truncate c n).ring.used < (s.truncate c n).ring.slots := by
    change slotTotal s.jc.directory < (s.truncate c n).ring.slots at hroom
    omega
  have hlower : ∀ d ∈ (s.truncate c n).ring.entries, d.number < s.ring.number :=
    fun d hd => hbelow hpresent d (hsub.subset hd)
  exact ⟨⟨⟨directoryRising_sublist hsub hrising, fun d hd => BitVec.le_of_lt (hlower d hd), hused, hfree.le⟩, hfree⟩,
    hfree.le, directoryRising_sublist hsub hrising, fun _ => hlower⟩

/-- R114, R145: the emptied ring. -/
theorem emptyRing_ring (s : State) : s.emptyRing.ring.Closed ∧ s.emptyRing.ring.Sound :=
  ⟨⟨⟨rfl, by simp [State.emptyRing, State.ring], rfl, Nat.zero_le _⟩, slots_pos s⟩, Nat.zero_le _, rfl,
    by simp [State.emptyRing, State.ring]⟩

/-! ### The law, field by field -/

/-- The model's test of the law, with what the port's discipline adds, is `Lawful`. -/
theorem lawful_iff (s : State) :
    s.Lawful ↔ s.ringLawful = true ∧ (s.save ≠ .idle → s.front.queue ≠ []) := by
  simp only [State.ringLawful, Bool.and_eq_true, and_assoc]
  rw [calls_iff, drained_iff, savePlaced_iff]
  constructor
  · rintro ⟨hring, hwork, hdrained, hreserve, hadmitted, hheaded⟩
    obtain ⟨hcounted, hbounded, hordered, hplaced⟩ := (allows_iff s).2 hring
    exact ⟨hcounted, hbounded, hordered, hplaced, hwork, hdrained, ⟨hreserve, hadmitted⟩, hheaded⟩
  · rintro ⟨hcounted, hbounded, hordered, hplaced, hwork, hdrained, ⟨hreserve, hadmitted⟩, hheaded⟩
    exact ⟨(allows_iff s).1 ⟨hcounted, hbounded, hordered, hplaced⟩, hwork, hdrained, hreserve, hadmitted, hheaded⟩

/-- R63: the port's discipline gives every save its head. -/
theorem headed_of_portDisciplined {s : State} (h : s.portDisciplined = true) (hsave : s.save ≠ .idle) :
    s.front.queue ≠ [] := by
  simp only [State.portDisciplined, Bool.and_eq_true, Bool.or_eq_true, decide_eq_true_eq] at h
  rcases h.2 with hidle | ⟨-, hqueue⟩
  · exact absurd hidle hsave
  · intro hnil
    simp [hnil] at hqueue

/-- Everything that the law reads of a state. -/
def State.lawView (s : State) : Ctl × RingView × Option RoomOp × Option Owner × Option Requester × Save × List Entry :=
  (s.jc.state, s.ring, s.jc.room, s.jc.work.map Work.owner, s.anchor.active.map AnchorWrite.requester, s.save, s.front.queue)

theorem State.Lawful.congr {s t : State} (h : s.Lawful) (hview : t.lawView = s.lawView) : t.Lawful := by
  simp only [State.lawView, Prod.mk.injEq] at hview
  obtain ⟨hctl, hring, hroom, howner, hreq, hsave, hqueue⟩ := hview
  obtain ⟨hr, hw, hd, hres, had, hh⟩ := h
  have hmarked : t.headMarked = s.headMarked := by rw [State.headMarked, hqueue]; rfl
  have hnone : t.noneMarked = s.noneMarked := by rw [State.noneMarked, hqueue]; rfl
  constructor
  · rw [hctl, hring]; exact hr
  · rw [hctl, hroom, howner, hreq]; exact hw
  · rw [hctl, hnone]; exact hd
  · rw [hsave, hring]; exact hres
  · rw [hctl, hsave, hmarked]; exact had
  · rw [hsave, hqueue]; exact hh

/-- With no transfer under way the law asks nothing of one. -/
theorem calls_of_none {s : State} (h : s.jc.work = none) :
    ∀ o ∈ s.jc.work.map Work.owner, s.jc.state.Calls s.jc.room (s.anchor.active.map AnchorWrite.requester) o := by
  simp [h]

theorem admits_idle (k : Ctl) (marked : Bool) : k.Admits .idle marked := by
  cases k <;> simp [Ctl.Admits, Save.active]

/-- In OPEN and UNGUARDED, with no transfer under way, the law asks for an open ring and the reserve of a save. -/
theorem lawful_at_rest {s : State} (hctl : s.jc.state = .opened ∨ s.jc.state = .unguarded) (hring : s.ring.Open)
    (hwork : s.jc.work = none) (hreserve : s.save.active = true → s.ring.used + 2 ≤ s.ring.slots)
    (hheaded : s.save ≠ .idle → s.front.queue ≠ []) : s.Lawful := by
  refine ⟨?_, calls_of_none hwork, ?_, hreserve, ?_, hheaded⟩
  · rcases hctl with h | h <;> rw [h] <;> exact hring
  · rcases hctl with h | h <;> simp [h, Ctl.pastDrain]
  · rcases hctl with h | h <;> simp [h, Ctl.Admits]

/-- The states that call for no transfer. -/
def Ctl.quiet (room : Option RoomOp) : Ctl → Bool
  | .anchorRead => false
  | .unformatted => true
  | .recovering c =>
    match c.step with
    | .scan _ _ => false
    | .replay _ w => w.left == 0
    | .tagWait _ => true
    | .anchor _ => false
  | .opened => room.isNone
  | .unguarded => room.isNone
  | .committing c =>
    match c.step with
    | .drain => room.isNone
    | .record _ => false
    | .tagWait => true
    | .anchor => false
  | .rollingBack c =>
    match c.step with
    | .drain => room.isNone
    | .intent => false
    | .replay w => w.left == 0
    | .tagWait => true
    | .anchor => false
  | .discarding _ => false
  | .formatting c =>
    match c.step with
    | .headWait => room.isNone
    | .apply => true
    | .clear => true
    | _ => false
  | .clearing c => c.step != .anchor
  | .damaged _ => true

theorem not_calls_of_quiet {room : Option RoomOp} {req : Option Requester} {k : Ctl} {o : Owner}
    (hq : k.quiet room = true) : ¬k.Calls room req o := by
  intro h
  cases h with
  | anchorRead => simp [Ctl.quiet] at hq
  | scan h | scrub h | invalidate0 h | invalidate1 h | slot0 h | commitRecord h => simp [Ctl.quiet, h] at hq
  | replayRead hw hl | replayWrite hw hl =>
    cases k
    case rollingBack c | recovering c => cases hc : c.step <;> simp_all [Ctl.walk, Ctl.quiet]
    all_goals simp [Ctl.walk] at hw
  | update hr hs =>
    cases hs with
    | reclaim hk hroom | unguard hk hroom =>
      cases k
      case rollingBack c | committing c | formatting c =>
        cases hc : c.step <;> simp_all [Ctl.quiet, Ctl.reclaims, Ctl.unguards, CommitCtx.beforeWrites]
      all_goals simp_all [Ctl.quiet, Ctl.reclaims, Ctl.unguards]
    | commit h | intent h | completion h | recovery h | discard h | clearing h => simp [Ctl.quiet, h] at hq

theorem State.Lawful.work_none {s : State} (h : s.Lawful) (hq : s.jc.state.quiet s.jc.room = true) : s.jc.work = none := by
  cases hw : s.jc.work with
  | none => rfl
  | some w => exact absurd (h.work w.owner (by simp [hw])) (not_calls_of_quiet hq)

/-- Dropping the transfer under way keeps the law. -/
theorem State.Lawful.dropWork {s : State} (h : s.Lawful) : State.Lawful { s with jc.work := none } :=
  ⟨h.ring, calls_of_none rfl, h.drained, h.reserve, h.admitted, h.headed⟩

end Sys2Proof.Machine
end

section
/-! SUPPORT. The law of the ring kept by every step inside an event: the front port, the offers and the controller's own steps. -/

namespace Sys2Proof.Machine

/-! ### The front port -/

/-- R3: an answer to the head ends its save. -/
theorem State.Lawful.respond {s : State} (h : s.Lawful) (st : Status) (data : List Byte) : (s.respond st data).Lawful := by
  unfold State.respond
  split
  · exact h
  · rename_i e rest hq
    refine ⟨h.ring, h.work, fun hp => ?_, nofun, admits_idle _ _, fun hne => absurd rfl hne⟩
    have hnone := h.drained hp
    simp only [State.noneMarked, hq, List.all_cons, Bool.and_eq_true] at hnone
    exact hnone.2

/-- R3: a head performed with no save. -/
theorem State.Lawful.perform {s : State} (h : s.Lawful) (counts : Bool) : (s.perform counts).Lawful := by
  unfold State.perform
  split
  · exact h
  · exact ⟨h.ring, h.work, h.drained, nofun, admits_idle _ _, fun hne => absurd rfl hne⟩

/-- A save that the state admits, with its reserve, begins or goes on for a head. -/
theorem State.Lawful.withSave {s t : State} (h : s.Lawful) (v : Save) (hview : t.lawView = State.lawView { s with save := v })
    (hreserve : v.active = true → s.ring.used + 2 ≤ s.ring.slots) (hadmits : s.jc.state.Admits v s.headMarked)
    (hq : s.front.queue ≠ []) : t.Lawful :=
  State.Lawful.congr (s := { s with save := v }) ⟨h.ring, h.work, h.drained, hreserve, hadmits, fun _ => hq⟩ hview

theorem reserve_of_free {s : State} (h : 2 ≤ s.free) : s.ring.used + 2 ≤ s.ring.slots := by
  change 2 ≤ s.ring.slots - s.ring.used at h
  omega

/-- R55, R58: the states in which a save in ROOM asks for room. -/
def Ctl.asksRoom : Ctl → Bool
  | .opened => true
  | .committing c => c.step == .drain
  | .rollingBack c => c.step == .drain
  | _ => false

theorem asksRoom_of_admits {k : Ctl} {g n : Nat} {marked : Bool} (hadmits : k.Admits (.room g n) marked)
    (hk : k.reclaims = true ∨ k.name = .opened ∨ k.name = .committing ∨ k.name = .rollingBack) : k.asksRoom = true := by
  cases k <;> simp_all [Ctl.Admits, Ctl.asksRoom, Ctl.reclaims, Ctl.name]

/-- Where a save in ROOM that asks for room is admitted any save is. -/
theorem admits_of_asksRoom {k : Ctl} {g n : Nat} {marked : Bool} (hk : k.asksRoom = true)
    (hadmits : k.Admits (.room g n) marked) (v : Save) : k.Admits v marked := by
  cases k <;> simp_all [Ctl.Admits, Ctl.asksRoom]

/-- Where room is asked for the ring may move as long as it stays open, with the same epoch. -/
theorem allows_of_asksRoom {k : Ctl} {r r' : RingView} (hk : k.asksRoom = true) (h : k.Allows r)
    (hopen : r.Open → r'.Open) (hepoch : r'.epoch = r.epoch) : k.Allows r' := by
  have hnumber : r'.number = r.number := by rw [RingView.number, hepoch]; rfl
  cases k
  case opened => exact hopen h
  case committing c =>
    have hc : c.step = .drain := by simpa [Ctl.asksRoom] using hk
    simp only [Ctl.Allows, hc] at h ⊢
    exact hopen h
  case rollingBack c =>
    have hc : c.step = .drain := by simpa [Ctl.asksRoom] using hk
    simp only [Ctl.Allows, hc, hnumber] at h ⊢
    exact ⟨hopen h.1, h.2⟩
  all_goals simp [Ctl.asksRoom] at hk

theorem reclaims_of_asksRoom {k : Ctl} (hk : k.asksRoom = true) : k.reclaims = true := by
  cases k <;> simp_all [Ctl.asksRoom, Ctl.reclaims, CommitCtx.beforeWrites]

theorem unguards_of_reclaims {k : Ctl} (hk : k.reclaims = true) : k.unguards = true := by
  cases k <;> simp_all [Ctl.unguards, Ctl.reclaims]

theorem dropOldest_state (s : State) : s.dropOldest.jc.state = s.jc.state := by
  unfold State.dropOldest
  split <;> rfl

theorem RingView.drop_used_le (r : RingView) : r.drop.used ≤ r.used := by
  unfold RingView.drop
  split
  · exact le_rfl
  · exact Nat.sub_le _ _

/-- R57: a reclaim step. -/
theorem State.Lawful.reclaimStep {s : State} (h : s.Lawful) (hk : s.jc.state.asksRoom = true) : s.reclaimStep.Lawful := by
  have hctl : s.reclaimStep.jc.state = s.jc.state := dropOldest_state s
  have hring : s.reclaimStep.ring = s.ring.drop := dropOldest_ring s
  have hsave : s.reclaimStep.save = s.save := dropOldest_save s
  have hfront : s.reclaimStep.front = s.front := dropOldest_front s
  have hmarked : s.reclaimStep.headMarked = s.headMarked := by rw [State.headMarked, hfront]; rfl
  have hnone : s.reclaimStep.noneMarked = s.noneMarked := by rw [State.noneMarked, hfront]; rfl
  constructor
  · rw [hctl, hring]
    exact allows_of_asksRoom hk h.ring RingView.Open.drop (RingView.drop_epoch _)
  · rintro o ⟨⟩
    rw [hctl]
    exact .update rfl (.reclaim (reclaims_of_asksRoom hk) rfl)
  · rw [hctl, hnone]
    exact h.drained
  · rw [hsave, hring, RingView.drop_slots]
    intro hactive
    have := h.reserve hactive
    have := s.ring.drop_used_le
    omega
  · rw [hctl, hsave, hmarked]
    exact h.admitted
  · rw [hsave, hfront]
    exact h.headed

theorem unguardStep_ring (s : State) : s.unguardStep.ring = s.ring := by
  simp [State.unguardStep, State.startUpdate, State.ring, State.capacity, Function.comp_def]

/-- R60: an unguard. -/
theorem State.Lawful.unguardStep {s : State} (h : s.Lawful) (hk : s.jc.state.asksRoom = true) : s.unguardStep.Lawful := by
  have hring := unguardStep_ring s
  refine ⟨?_, ?_, h.drained, ?_, h.admitted, h.headed⟩
  · rw [hring]
    exact h.ring
  · rintro o ⟨⟩
    exact .update rfl (.unguard (unguards_of_reclaims (reclaims_of_asksRoom hk)) rfl)
  · rw [hring]
    exact h.reserve

theorem State.Lawful.askRoom {s : State} (h : s.Lawful) (hk : s.jc.state.asksRoom = true) : s.askRoom.Lawful := by
  unfold State.askRoom
  split
  · exact h.reclaimStep hk
  · exact h.unguardStep hk

/-- R65: everything that a save in ROOM can do next, with what it needs. -/
theorem roomStep_inv {s t : State} {g n : Nat} (h : s.roomStep g n = some t) :
    ((s.name = .opened ∨ s.name = .committing ∨ s.name = .rollingBack) ∧
      (2 ≤ s.free ∧ t = s.claimSaveRead g n ∨ t = s.askRoom)) ∨ t = { s with save := .idle } := by
  unfold State.roomStep at h
  split at h
  case h_1 => contradiction
  case h_2 hname | h_3 hname | h_4 hname =>
    left
    refine ⟨by simp [hname], ?_⟩
    split at h
    · contradiction
    · split at h
      · exact Or.inl ⟨‹_›, (Option.some.inj h).symm⟩
      · exact Or.inr (Option.some.inj h).symm
  all_goals exact Or.inr (Option.some.inj h).symm

theorem State.Lawful.claimSaveRead {s : State} (h : s.Lawful) (g n : Nat) (hfree : 2 ≤ s.free)
    (hadmits : s.jc.state.Admits (.read g n) s.headMarked) (hq : s.front.queue ≠ []) : (s.claimSaveRead g n).Lawful :=
  h.withSave (.read g n) rfl (fun _ => reserve_of_free hfree) hadmits hq

theorem State.Lawful.roomStep {s t : State} {g n : Nat} (h : s.Lawful) (hsave : s.save = .room g n)
    (ht : s.roomStep g n = some t) : t.Lawful := by
  have hadmits := h.admitted
  rw [hsave] at hadmits
  rcases roomStep_inv ht with ⟨hname, hstep⟩ | rfl
  · have hk := asksRoom_of_admits hadmits (Or.inr hname)
    rcases hstep with ⟨hfree, rfl⟩ | rfl
    · exact h.claimSaveRead g n hfree (admits_of_asksRoom hk hadmits _) (h.headed (by simp [hsave]))
    · exact h.askRoom hk
  · exact ⟨h.ring, h.work, h.drained, nofun, admits_idle _ _, fun hne => absurd rfl hne⟩

/-- R12, R14, R15: a head goes to the save unit in OPEN and DISCARDING, and marked in a commit or a rollback. -/
theorem headAction_save {s : State} {e : Entry} (h : s.headAction e = .save) :
    s.name = .opened ∨ s.name = .discarding ∨ (s.name = .committing ∨ s.name = .rollingBack) ∧ e.marked = true := by
  have hclass : s.classAction e = .save := by
    unfold State.headAction at h
    repeat' split at h
    all_goals first | exact h | contradiction
  have hjournaled : s.journaledAction e.req.isWrite e.marked = .save := by
    unfold State.classAction at hclass
    repeat' split at hclass
    all_goals first | exact hclass | contradiction
  unfold State.journaledAction State.guardedWrite State.unguardedWrite at hjournaled
  cases hk : s.jc.state <;> simp [State.name, Ctl.name, hk] at hjournaled ⊢
  case unguarded | damaged => split_ifs at hjournaled
  case committing | rollingBack =>
    by_contra hmarked
    simp [hmarked] at hjournaled

/-- R12, R14, R15: the state admits any save for a head that goes to the save unit. -/
theorem State.Lawful.admits_of_save {s : State} {e : Entry} {rest : List Entry} (h : s.Lawful) (hq : s.front.queue = e :: rest)
    (ha : s.headAction e = .save) (v : Save) : s.jc.state.Admits v s.headMarked := by
  have hhead : s.headMarked = e.marked := by simp [State.headMarked, hq]
  have hdrained := h.drained
  rcases headAction_save ha with hname | hname | ⟨hname, hmarked⟩
  case inr.inr =>
    have hnot : ¬s.jc.state.pastDrain = true := fun hp => by
      have hnone := hdrained hp
      simp [State.noneMarked, hq, hmarked] at hnone
    cases hk : s.jc.state <;> simp_all [State.name, Ctl.name, Ctl.pastDrain, Ctl.Admits]
  all_goals cases hk : s.jc.state <;> simp_all [State.name, Ctl.name, Ctl.Admits]

theorem State.Lawful.beginSave {s : State} {e : Entry} {rest : List Entry} (h : s.Lawful) (hq : s.front.queue = e :: rest)
    (ha : s.headAction e = .save) : (s.beginSave e).Lawful := by
  have hadmits := h.admits_of_save hq ha
  have hhead : s.front.queue ≠ [] := by simp [hq]
  have henter (g n : Nat) : (s.enterRoom g n).Lawful := h.withSave (.room g n) rfl nofun (hadmits _) hhead
  unfold State.beginSave
  simp only
  split
  · exact h.perform true
  · split
    · exact h.claimSaveRead _ _ ‹_› (hadmits _) hhead
    · cases hr : (s.enterRoom e.req.granule (tagEntry s.windows.committed e.req.granule)).roomStep e.req.granule
          (tagEntry s.windows.committed e.req.granule) with
      | none => exact henter _ _
      | some t => exact (henter _ _).roomStep rfl hr

theorem State.Lawful.raiseIf {s : State} (h : s.Lawful) (b : Bool) (e : Event) : (s.raiseIf b e).Lawful :=
  h.congr (by simp [State.lawView, State.ring, State.capacity])

theorem State.Lawful.act {s t : State} {e : Entry} {rest : List Entry} {a : HeadAction} (h : s.Lawful)
    (hq : s.front.queue = e :: rest) (ha : a = .save → s.headAction e = .save) (ht : s.act a e = some t) : t.Lawful := by
  unfold State.act at ht
  split at ht
  case h_1 => cases ht; exact (h.respond _ _).raiseIf _ _
  case h_2 => cases ht; exact h.perform _
  case h_3 =>
    split at ht
    · contradiction
    · cases ht; exact h.congr rfl
  case h_4 => cases ht; exact h.beginSave hq (ha rfl)

theorem State.Lawful.headStep {s t : State} (h : s.Lawful) (ht : s.headStep = some t) : t.Lawful := by
  unfold State.headStep at ht
  split at ht
  · contradiction
  · split at ht
    · contradiction
    · rename_i e rest hq
      split at ht
      · exact h.act (a := .answer .halted false) hq nofun ht
      · split at ht
        case h_1 hsave => exact h.roomStep hsave ht
        case h_2 => exact h.act hq id ht
        all_goals contradiction

theorem State.Lawful.examineHead {s : State} (h : s.Lawful) : s.examineHead.Lawful := by
  unfold State.examineHead
  split
  · exact h
  · exact h.headStep ‹_›

/-- R2: a request accepted stands behind the head, unmarked. -/
theorem State.Lawful.acceptStep {s t : State} (h : s.Lawful) (ht : s.acceptStep = some t) : t.Lawful := by
  unfold State.acceptStep at ht
  split at ht
  · contradiction
  · split at ht
    · cases ht
      refine ⟨h.ring, h.work, fun hp => ?_, h.reserve, ?_, fun _ => by simp⟩
      · have hnone : s.front.queue.all (fun e => !e.marked) = true := h.drained hp
        simp [State.noneMarked, hnone]
      · cases hq : s.front.queue with
        | nil =>
          have hidle : s.save = .idle := by
            by_contra hne
            exact h.headed hne hq
          show s.jc.state.Admits s.save _
          rw [hidle]
          exact admits_idle _ _
        | cons e rest =>
          have hmarked : s.headMarked = e.marked := by simp [State.headMarked, hq]
          have hadmits := h.admitted
          rw [hmarked] at hadmits
          simpa [State.headMarked, hq] using hadmits
    · contradiction

/-! ### Taking a commit or a rollback, and the offers -/

/-- R78, R106, R116: the controller is in OPEN with no reclaim or unguard running, or in UNGUARDED. -/
def State.AtRest (s : State) : Prop := s.jc.state = .opened ∧ s.jc.room = none ∨ s.jc.state = .unguarded

theorem atRest_of_name {s : State} (hname : s.name = .opened ∨ s.name = .unguarded) (hmark : s.mark = false) : s.AtRest := by
  unfold State.mark at hmark
  unfold State.AtRest
  cases hk : s.jc.state <;> simp_all [State.name, Ctl.name]

theorem atRest_of_canCommit {s : State} (h : s.canCommit = true) : s.AtRest := by
  simp only [State.canCommit, Bool.and_eq_true, Bool.or_eq_true, beq_iff_eq, Bool.not_eq_true'] at h
  exact atRest_of_name h.1.1 h.1.2

theorem opened_of_canFallback {s : State} (h : s.canFallback = true) : s.jc.state = .opened ∧ s.jc.room = none := by
  simp only [State.canFallback, Bool.and_eq_true, beq_iff_eq, Bool.not_eq_true'] at h
  obtain ⟨⟨hname, hmark⟩, -⟩ := h
  rcases atRest_of_name (Or.inl hname) hmark with hopened | hunguarded
  · exact hopened
  · simp [State.name, hunguarded, Ctl.name] at hname

theorem State.Lawful.open_of_opened {s : State} (h : s.Lawful) (hk : s.jc.state = .opened) : s.ring.Open := by
  have hring := h.ring
  rwa [hk] at hring

theorem State.Lawful.open_of_atRest {s : State} (h : s.Lawful) (hs : s.AtRest) : s.ring.Open := by
  have hring := h.ring
  rcases hs with ⟨hk, -⟩ | hk <;> rwa [hk] at hring

/-- Log 19: at rest no update but that of an unguard is being written, and it may go on in the operation taken. -/
theorem State.Lawful.calls_of_atRest {s : State} (h : s.Lawful) (hs : s.AtRest) {k : Ctl} (hk : k.unguards = true) :
    ∀ o ∈ s.jc.work.map Work.owner, k.Calls s.jc.room (s.anchor.active.map AnchorWrite.requester) o := by
  rcases hs with ⟨hopened, hroom⟩ | hunguarded
  · simp [h.work_none (by simp [hopened, hroom, Ctl.quiet])]
  · intro o ho
    have hcalls := h.work o ho
    rw [hunguarded] at hcalls
    cases hcalls with
    | update hr hs =>
      cases hs with
      | unguard _ hroom => exact .update hr (.unguard hk hroom)
      | reclaim hk => contradiction
    | replayRead hw => contradiction
    | replayWrite hw => contradiction

theorem markAll_eq_nil {q : List Entry} : markAll q = [] ↔ q = [] := List.map_eq_nil_iff

theorem unmarkAll_eq_nil {q : List Entry} : unmarkAll q = [] ↔ q = [] := List.map_eq_nil_iff

/-- R14, R15: with every request marked, a save is for a marked head. -/
theorem State.Lawful.idle_or_marked {s t : State} (h : s.Lawful) (hq : t.front.queue = markAll s.front.queue) :
    s.save = .idle ∨ t.headMarked = true := by
  by_cases hsave : s.save = .idle
  · exact Or.inl hsave
  · cases hqueue : s.front.queue with
    | nil => exact absurd hqueue (h.headed hsave)
    | cons e rest => exact Or.inr (by simp [State.headMarked, hq, hqueue, markAll])

/-- R82: a commit taken. -/
theorem State.Lawful.takeCommit {s : State} (h : s.Lawful) (hs : s.AtRest) (b : Bool) : (s.takeCommit b).Lawful :=
  ⟨h.open_of_atRest hs, h.calls_of_atRest hs rfl, nofun, h.reserve,
    (h.idle_or_marked (t := s.takeCommit b) rfl).imp_right fun hm => ⟨rfl, hm⟩,
    fun hsave => mt markAll_eq_nil.1 (h.headed hsave)⟩

/-- R119: a rollback taken. -/
theorem State.Lawful.takeRollback {s : State} (h : s.Lawful) (hs : s.jc.state = .opened ∧ s.jc.room = none) (n : Word)
    (k : ReportCause) : (s.takeRollback n k).Lawful :=
  ⟨⟨h.open_of_atRest (Or.inl hs), ring_number s⟩, h.calls_of_atRest (Or.inl hs) rfl, nofun, h.reserve,
    (h.idle_or_marked (t := s.takeRollback n k) rfl).imp_right fun hm => ⟨rfl, hm⟩,
    fun hsave => mt markAll_eq_nil.1 (h.headed hsave)⟩

theorem State.Lawful.offerCkpt {s t : State} (h : s.Lawful) (ht : s.offerCkpt = some t) : t.Lawful := by
  unfold State.offerCkpt at ht
  split at ht
  · rename_i hc
    cases ht
    have hlatch : State.Lawful { s with lines.ckptLatch := false } := h.congr rfl
    rw [Bool.and_eq_true] at hc
    exact hlatch.takeCommit (atRest_of_canCommit hc.2) false
  · contradiction

theorem State.Lawful.offerFallback {s t : State} (h : s.Lawful) (ht : s.offerFallback = some t) : t.Lawful := by
  have hlatch : State.Lawful { s with lines.fallbackLatch := false } := h.congr rfl
  unfold State.offerFallback at ht
  simp only at ht
  split at ht
  · split at ht
    · cases ht
      exact hlatch.takeRollback (opened_of_canFallback ‹_›) _ _
    · split at ht
      · cases ht
        exact hlatch.congr rfl
      · contradiction
  · contradiction

theorem State.Lawful.offerLatches {s : State} (h : s.Lawful) : s.offerLatches.Lawful :=
  offerLatches_keeps (P := State.Lawful) (fun _ h => h.congr rfl) (fun _ _ ht h => h.offerCkpt ht)
    (fun _ _ ht h => h.offerFallback ht) s h

/-! ### Operations that several steps share -/

/-- R100: an update that the state of the controller calls for is asked for. -/
theorem State.Lawful.startUpdate {s : State} (h : s.Lawful) {r : Requester} (a : Anchor)
    (hserves : s.jc.state.Serves s.jc.room r) : (s.startUpdate r a).Lawful :=
  ⟨h.ring, by rintro o ⟨⟩; exact .update rfl hserves, h.drained, h.reserve, h.admitted, h.headed⟩

/-- R157: a transfer that the state of the controller calls for begins. -/
theorem State.Lawful.startWork {s : State} (h : s.Lawful) {o : Owner} (todo : List Request)
    (hcalls : s.jc.state.Calls s.jc.room (s.anchor.active.map AnchorWrite.requester) o) : (s.startWork o todo).Lawful :=
  ⟨h.ring, by rintro o ⟨⟩; exact hcalls, h.drained, h.reserve, h.admitted, h.headed⟩

/-- R28: DAMAGED asks for a sound ring, and for the reserve and the head of a save past its free test. -/
theorem lawful_enterDamaged {s : State} (cause : Cause) (hring : s.ring.Sound)
    (hreserve : s.save.active = true → s.ring.used + 2 ≤ s.ring.slots) (hheaded : s.save ≠ .idle → s.front.queue ≠ []) :
    (s.enterDamaged cause).Lawful := by
  refine ⟨hring, nofun, nofun, fun hactive => hreserve ?_, trivial, fun hsave => mt unmarkAll_eq_nil.1 (hheaded ?_)⟩
  all_goals
    cases hv : s.save <;> simp_all [State.enterDamaged, Save.active]

theorem State.Lawful.enterDamaged {s : State} (h : s.Lawful) (cause : Cause) (hring : s.ring.Sound) :
    (s.enterDamaged cause).Lawful :=
  lawful_enterDamaged cause hring h.reserve h.headed

theorem State.Lawful.endLong {s : State} (h : s.Lawful) (r : LongResult) : (s.endLong r).Lawful :=
  h.congr (by simp [State.lawView, State.ring, State.capacity])

theorem endLong_ring (s : State) (r : LongResult) : (s.endLong r).ring = s.ring := by
  simp [State.ring, State.capacity]

/-- R83, R120: with no request marked no save is under way in a commit or a rollback. -/
theorem State.Lawful.idle_of_noneMarked {s : State} (h : s.Lawful) (hnone : s.noneMarked = true)
    (hk : s.name = .committing ∨ s.name = .rollingBack) : s.save = .idle := by
  have hmarked : s.headMarked = false := by
    unfold State.noneMarked at hnone
    unfold State.headMarked
    split
    · rfl
    · simp_all
  have hadmits := h.admitted
  cases hctl : s.jc.state <;> simp_all [State.name, Ctl.name, Ctl.Admits]

/-- With no save and no transfer under way the law asks for the ring, and for the marks of a commit or a rollback. -/
theorem lawful_of_idle {s : State} (hring : s.jc.state.Allows s.ring) (hwork : s.jc.work = none)
    (hdrained : s.jc.state.pastDrain = true → s.noneMarked = true) (hidle : s.save = .idle) : s.Lawful :=
  ⟨hring, calls_of_none hwork, hdrained, by simp [hidle, Save.active], hidle ▸ admits_idle _ _, absurd hidle⟩

/-- Outside a commit and a rollback, with no transfer under way and no save past its free test, the law asks for the ring alone. -/
theorem lawful_of_inactive {s : State} (hring : s.jc.state.Allows s.ring) (hwork : s.jc.work = none)
    (hinactive : s.save.active = false) (hheaded : s.save ≠ .idle → s.front.queue ≠ [])
    (hname : s.name ≠ .committing ∧ s.name ≠ .rollingBack) : s.Lawful := by
  obtain ⟨hcommit, hrollback⟩ := hname
  refine ⟨hring, calls_of_none hwork, ?_, by simp [hinactive], ?_, hheaded⟩
  all_goals cases hk : s.jc.state <;> simp_all [State.name, Ctl.name, Ctl.pastDrain, Ctl.Admits]

/-! ### The controller's own steps: recovery -/

/-- In RECOVERING no save is past its free test. -/
theorem State.Lawful.inactive_of_recovering {s : State} {c : RecoveryCtx} (h : s.Lawful) (hk : s.jc.state = .recovering c) :
    s.save.active = false := by
  have hadmits := h.admitted
  rwa [hk] at hadmits

/-- R144, R148: the end of a replay of recovery truncates the ring. -/
theorem State.Lawful.recoveryTruncate {s : State} {c : RecoveryCtx} {k : Course} {w : Walk} (h : s.Lawful)
    (hk : s.jc.state = .recovering c) (hc : c.step = .replay k w) (hleft : w.left = 0) (n : Word) :
    State.Lawful { s.truncate n c.commits with
      jc := { (s.truncate n c.commits).jc with state := .recovering { c with step := .tagWait k } } } := by
  have hring := h.ring
  simp only [hk, Ctl.Allows, hc] at hring
  obtain ⟨hreplayed, hnumber⟩ := hring
  obtain ⟨hclosed, hsound⟩ := truncate_ring n hreplayed
  have hwork := h.work_none (by simp [hk, hc, hleft, Ctl.quiet])
  have hinactive := h.inactive_of_recovering hk
  exact lawful_of_inactive ⟨hclosed, hreplayed.present, hnumber, fun _ => hsound⟩ hwork hinactive h.headed ⟨nofun, nofun⟩

/-- R31: with the last epoch closed and its record gone the ring is sound. -/
theorem RingView.Filled.sound_without_epoch {r : RingView} (h : r.Filled) : RingView.Sound { r with epoch := none } :=
  ⟨h.fits, h.rising, nofun⟩

/-- R31, R149: recovery opens the next epoch, or enters DAMAGED. -/
theorem State.Lawful.recoveryOpen {s : State} {c : RecoveryCtx} {k : Course} (h : s.Lawful)
    (hk : s.jc.state = .recovering c) (hc : c.step = .tagWait k) : (s.recoveryOpen c k).Lawful := by
  have hring := h.ring
  simp only [hk, Ctl.Allows, hc] at hring
  obtain ⟨hclosed, hpresent, hnumber, hsound⟩ := hring
  have hinactive := h.inactive_of_recovering hk
  unfold State.recoveryOpen
  split
  case h_1 =>
    refine lawful_enterDamaged _ ?_ h.reserve h.headed
    by_cases hforward : k = .forward
    · subst hforward
      exact hclosed.sound_without_epoch
    · simp only [hforward, if_false]
      exact hsound hforward
  case h_2 m hm =>
    have hopen := openEpoch_ring (k == .broken) hclosed (hnumber ▸ hm)
    have hwork := h.work_none (by simp [hk, hc, Ctl.quiet])
    exact State.Lawful.startUpdate (s := { s.openEpoch m (k == .broken) with
        jc := { (s.openEpoch m (k == .broken)).jc with state := .recovering { c with step := .anchor k } } })
      (lawful_of_inactive hopen hwork hinactive h.headed ⟨nofun, nofun⟩) _ (.recovery rfl)

theorem State.Lawful.recoveryStep {s t : State} {c : RecoveryCtx} (h : s.Lawful) (hk : s.jc.state = .recovering c)
    (ht : s.recoveryStep c = some t) : t.Lawful := by
  unfold State.recoveryStep at ht
  split at ht
  case h_2 k w hc =>
    split at ht
    · cases ht
      exact h.recoveryTruncate hk hc ‹_› _
    · contradiction
  case h_3 k hc =>
    split at ht
    · cases ht
      exact h.recoveryOpen hk hc
    · contradiction
  all_goals contradiction

/-! ### The controller's own steps: commit -/

/-- R57, R60, log 19: an update that was asked for in a commit's first step goes on while its record waits. -/
theorem calls_of_drain {room : Option RoomOp} {req : Option Requester} {o : Owner} {c c' : CommitCtx}
    (h : Ctl.Calls room req o (.committing c)) (hc : c.step = .drain) (hc' : c'.beforeWrites = true) :
    Ctl.Calls room req o (.committing c') := by
  cases h with
  | update hr hs =>
    cases hs with
    | reclaim _ hroom => exact .update hr (.reclaim hc' hroom)
    | unguard _ hroom => exact .update hr (.unguard hc' hroom)
    | commit h => simp [hc] at h
  | commitRecord h => simp [hc] at h
  | replayRead hw => contradiction
  | replayWrite hw => contradiction

/-- R83, R84: the COMMIT record is built, and written where no update runs. -/
theorem State.Lawful.beginCommitRecord {s : State} {c : CommitCtx} (h : s.Lawful) (hk : s.jc.state = .committing c)
    (hc : c.step = .drain) (hnone : s.noneMarked = true) : (s.beginCommitRecord c).Lawful := by
  unfold State.beginCommitRecord
  split
  · exact h
  · rename_i e he
    have hring := h.ring
    simp only [hk, Ctl.Allows, hc] at hring
    have hidle := h.idle_of_noneMarked hnone (Or.inl (congrArg Ctl.name hk))
    have hcount : e.preImages = s.ring.preImages := by simp [ring_preImages, State.openPreImages, he]
    have hbuilt : State.Lawful { s with
        jc := { s.jc with state := .committing { c with step := .record (commitInfo e s.stamp c.copy.differs) } } } := by
      refine ⟨⟨hring, hcount⟩, fun o ho => ?_, fun _ => hnone, h.reserve, Or.inl hidle, h.headed⟩
      have hcalls := h.work o ho
      rw [hk] at hcalls
      exact calls_of_drain hcalls hc rfl
    simp only
    split
    · rename_i hroom
      exact hbuilt.startWork _ (.commitRecord rfl (Option.isNone_iff_eq_none.1 hroom))
    · exact hbuilt

/-- A commit past its first step has no save under way. -/
theorem State.Lawful.idle_of_committing {s : State} {c : CommitCtx} (h : s.Lawful) (hk : s.jc.state = .committing c)
    (hc : c.step ≠ .drain) : s.save = .idle := by
  have hadmits := h.admitted
  rw [hk] at hadmits
  exact hadmits.resolve_right fun hdrain => hc hdrain.1

theorem State.Lawful.noneMarked_of_committing {s : State} {c : CommitCtx} (h : s.Lawful) (hk : s.jc.state = .committing c)
    (hc : c.step ≠ .drain) : s.noneMarked = true :=
  h.drained (by simpa [hk, Ctl.pastDrain] using hc)

/-- R91: opening the next epoch changes of the ring only its open epoch. -/
theorem commitOpened_ring_open {s : State} {m : Word} (c : CommitCtx) (h : s.ring.Closed)
    (hm : epochAfter s.openNumber = some m) : (s.commitOpened c m).ring.Open := by
  have hopen := openEpoch_ring false h (by rwa [ring_number])
  unfold State.commitOpened
  cases c.copy.differs <;> exact hopen

theorem commitOpened_rest (s : State) (c : CommitCtx) (m : Word) : (s.commitOpened c m).jc.work = s.jc.work ∧
    (s.commitOpened c m).save = s.save ∧ (s.commitOpened c m).front = s.front := by
  unfold State.commitOpened
  cases c.copy.differs <;> exact ⟨rfl, rfl, rfl⟩

/-- R31, R91, R92: the commit opens the next epoch, or enters DAMAGED. -/
theorem State.Lawful.commitOpen {s : State} {c : CommitCtx} (h : s.Lawful) (hk : s.jc.state = .committing c)
    (hc : c.step = .tagWait) : (s.commitOpen c).Lawful := by
  have hring := h.ring
  simp only [hk, Ctl.Allows, hc] at hring
  obtain ⟨hclosed, hpresent⟩ := hring
  have hpast : c.step ≠ .drain := by simp [hc]
  have hidle := h.idle_of_committing hk hpast
  cases hm : epochAfter s.openNumber with
  | none =>
    rw [commitOpen_of_exhausted c hm]
    have hview : State.ring { s.endLong .failed with jc := { s.jc with epoch := none } } = { s.ring with epoch := none } := by
      simp [State.ring, State.capacity]
    refine lawful_enterDamaged _ (hview ▸ hclosed.sound_without_epoch) ?_ ?_
    · simp [hidle, Save.active]
    · simp [hidle]
  | some m =>
    rw [commitOpen_of_next c hm]
    have hwork := h.work_none (by simp [hk, hc, Ctl.quiet])
    have hnone := h.noneMarked_of_committing hk hpast
    obtain ⟨hwork', hsave', hfront'⟩ := commitOpened_rest s c m
    refine State.Lawful.startUpdate (lawful_of_idle (s := s.commitOpened c m)
      (commitOpened_ring_open c hclosed hm) ?_ ?_ ?_) _ (.commit rfl)
    · rw [hwork', hwork]
    · rw [State.noneMarked, hfront']
      exact fun _ => hnone
    · rw [hsave', hidle]

theorem State.Lawful.commitStep {s t : State} {c : CommitCtx} (h : s.Lawful) (hk : s.jc.state = .committing c)
    (ht : s.commitStep c = some t) : t.Lawful := by
  unfold State.commitStep at ht
  split at ht
  case h_1 hc =>
    split at ht
    · rename_i hready
      cases ht
      rw [Bool.and_eq_true] at hready
      exact h.beginCommitRecord hk hc hready.1
    · contradiction
  case h_2 i hc =>
    split at ht
    · rename_i hready
      cases ht
      simp only [Bool.and_eq_true, Option.isNone_iff_eq_none] at hready
      refine h.startWork _ ?_
      rw [hk]
      exact .commitRecord hc hready.1
    · contradiction
  case h_3 hc =>
    split at ht
    · cases ht
      exact h.commitOpen hk hc
    · contradiction
  case h_4 => contradiction

/-! ### The controller's own steps: rollback -/

/-- A rollback past its first step has no save under way. -/
theorem State.Lawful.idle_of_rollingBack {s : State} {c : RollbackCtx} (h : s.Lawful) (hk : s.jc.state = .rollingBack c)
    (hc : c.step ≠ .drain) : s.save = .idle := by
  have hadmits := h.admitted
  rw [hk] at hadmits
  exact hadmits.resolve_right fun hdrain => hc hdrain.1

theorem State.Lawful.noneMarked_of_rollingBack {s : State} {c : RollbackCtx} (h : s.Lawful)
    (hk : s.jc.state = .rollingBack c) (hc : c.step ≠ .drain) : s.noneMarked = true :=
  h.drained (by simpa [hk, Ctl.pastDrain] using hc)

/-- In the first step of a rollback the ring is open, and the context holds its epoch. -/
theorem State.Lawful.ring_of_rollbackDrain {s : State} {c : RollbackCtx} (h : s.Lawful) (hk : s.jc.state = .rollingBack c)
    (hc : c.step = .drain) : s.ring.Open ∧ s.ring.number = c.openNumber := by
  have hring := h.ring
  simpa only [hk, Ctl.Allows, hc] using hring

/-- R121: an abandoned rollback leaves UNGUARDED, with the unguard's update going on. -/
theorem State.Lawful.rollbackAbandoned {s : State} {c : RollbackCtx} (h : s.Lawful) (hk : s.jc.state = .rollingBack c)
    (hc : c.step = .drain) (hroom : s.jc.room ≠ some .reclaim) : s.rollbackAbandoned.Lawful := by
  refine State.Lawful.congr (s := { s with
    jc := { s.jc with state := .unguarded }, front := { s.front with queue := unmarkAll s.front.queue } }) ?_
    (by simp [State.lawView, State.ring, State.capacity, State.rollbackAbandoned, State.startTimer, State.unmark])
  refine ⟨(h.ring_of_rollbackDrain hk hc).1, fun o ho => ?_, nofun, h.reserve, trivial,
    fun hsave => mt unmarkAll_eq_nil.1 (h.headed hsave)⟩
  have hcalls := h.work o ho
  rw [hk] at hcalls
  cases hcalls with
  | update hr hs =>
    cases hs with
    | reclaim _ hreclaim => exact absurd hreclaim hroom
    | unguard _ hunguard => exact .update hr (.unguard rfl hunguard)
    | intent h => simp [hc] at h
    | completion h => simp [hc] at h
  | replayRead hw => simp [Ctl.walk, hc] at hw
  | replayWrite hw => simp [Ctl.walk, hc] at hw

/-- R122: the intent update is asked for. -/
theorem State.Lawful.askIntent {s : State} {c : RollbackCtx} (h : s.Lawful) (hk : s.jc.state = .rollingBack c)
    (hc : c.step = .drain) (hroom : s.jc.room = none) (hnone : s.noneMarked = true) : (s.askIntent c).Lawful := by
  have hwork := h.work_none (by simp [hk, hc, hroom, Ctl.quiet])
  have hidle := h.idle_of_noneMarked hnone (Or.inr (congrArg Ctl.name hk))
  have hring := h.ring_of_rollbackDrain hk hc
  exact State.Lawful.startUpdate (s := { s with jc := { s.jc with state := .rollingBack { c with step := .intent } } })
    (lawful_of_idle hring hwork (fun _ => hnone) hidle) _ (.intent rfl)

theorem State.Lawful.rollbackDrained {s t : State} {c : RollbackCtx} (h : s.Lawful) (hk : s.jc.state = .rollingBack c)
    (hc : c.step = .drain) (hnone : s.noneMarked = true) (ht : s.rollbackDrained c = some t) : t.Lawful := by
  unfold State.rollbackDrained at ht
  split at ht
  case h_1 hroom =>
    cases ht
    split
    · exact h.rollbackAbandoned hk hc (by simp [hroom])
    · exact h.askIntent hk hc hroom hnone
  case h_2 hroom =>
    cases ht
    exact h.rollbackAbandoned hk hc (by simp [hroom])
  case h_3 => contradiction

/-- R128: the end of a rollback's replay truncates the ring. -/
theorem State.Lawful.rollbackTruncate {s : State} {c : RollbackCtx} {w : Walk} (h : s.Lawful)
    (hk : s.jc.state = .rollingBack c) (hc : c.step = .replay w) (hleft : w.left = 0) :
    State.Lawful { s.truncate c.target 0 with
      jc := { (s.truncate c.target 0).jc with state := .rollingBack { c with step := .tagWait } } } := by
  have hring := h.ring
  simp only [hk, Ctl.Allows, hc] at hring
  obtain ⟨hopen, hnumber⟩ := hring
  obtain ⟨hclosed, hsound⟩ := truncate_ring c.target hopen.replayed
  have hpast : c.step ≠ .drain := by simp [hc]
  exact lawful_of_idle ⟨hclosed, hopen.present, hnumber, hsound⟩
    (h.work_none (by simp [hk, hc, hleft, Ctl.quiet])) (fun _ => h.noneMarked_of_rollingBack hk hpast)
    (h.idle_of_rollingBack hk hpast)

/-- R31, R129, R130: the rollback opens the next epoch, or enters DAMAGED. -/
theorem State.Lawful.rollbackOpen {s : State} {c : RollbackCtx} (h : s.Lawful) (hk : s.jc.state = .rollingBack c)
    (hc : c.step = .tagWait) : (s.rollbackOpen c).Lawful := by
  have hring := h.ring
  simp only [hk, Ctl.Allows, hc] at hring
  obtain ⟨hclosed, hpresent, hnumber, hsound⟩ := hring
  have hpast : c.step ≠ .drain := by simp [hc]
  unfold State.rollbackOpen
  split
  case h_1 =>
    have hended : ((s.endLong .failed).endReport .damaged).Lawful := (h.endLong .failed).congr rfl
    exact hended.enterDamaged _ ((endLong_ring s .failed).symm ▸ hsound)
  case h_2 m hm =>
    exact State.Lawful.startUpdate (s := { s.openEpoch m false with
        jc := { (s.openEpoch m false).jc with state := .rollingBack { c with step := .anchor } } })
      (lawful_of_idle (openEpoch_ring false hclosed (hnumber ▸ hm)) (h.work_none (by simp [hk, hc, Ctl.quiet]))
        (fun _ => h.noneMarked_of_rollingBack hk hpast) (h.idle_of_rollingBack hk hpast)) _ (.completion rfl)

theorem State.Lawful.rollbackStep {s t : State} {c : RollbackCtx} (h : s.Lawful) (hk : s.jc.state = .rollingBack c)
    (ht : s.rollbackStep c = some t) : t.Lawful := by
  unfold State.rollbackStep at ht
  split at ht
  case h_1 hc =>
    split at ht
    · exact h.rollbackDrained hk hc ‹_› ht
    · contradiction
  case h_3 w hc =>
    split at ht
    · cases ht
      exact h.rollbackTruncate hk hc ‹_›
    · contradiction
  case h_4 hc =>
    split at ht
    · cases ht
      exact h.rollbackOpen hk hc
    · contradiction
  all_goals contradiction

/-! ### The controller's own steps: DISCARD, FORMAT and CLEAR DAMAGE -/

/-- R107: the update of a discard is asked for when no unguard's update runs. -/
theorem State.Lawful.askDiscard {s : State} {c : DiscardCtx} (h : s.Lawful) (hk : s.jc.state = .discarding c)
    (hroom : s.jc.room = none) : (s.askDiscard c).Lawful :=
  h.startUpdate _ (by rw [hk]; exact .discard hroom)

theorem State.Lawful.discardStep {s t : State} {c : DiscardCtx} (h : s.Lawful) (hk : s.jc.state = .discarding c)
    (ht : s.discardStep c = some t) : t.Lawful := by
  unfold State.discardStep at ht
  split at ht
  · rename_i hready
    cases ht
    simp only [Bool.and_eq_true, Option.isNone_iff_eq_none] at hready
    exact h.askDiscard hk hready.1
  · contradiction

/-- R3: a save past its free test is for a head in progress. -/
theorem inactive_of_not_inProgress {s : State} (h : ¬s.inProgress = true) : s.save.active = false := by
  unfold State.inProgress at h
  cases hv : s.save <;> simp_all [Save.active]

/-- R110: a format goes on to a step that the ring's soundness is enough for. -/
theorem lawful_formatTo {s : State} {c : FormatCtx} {step : FormatStep} {o : Owner} (todo : List Request)
    (hring : s.ring.Sound) (hinactive : s.save.active = false) (hheaded : s.save ≠ .idle → s.front.queue ≠ [])
    (hcalls : ∀ room req, Ctl.Calls room req o (.formatting { c with step := step }))
    (hstep : step ≠ .apply ∧ step ≠ .clear) :
    (s.formatTo c step o todo).Lawful := by
  have hallows : Ctl.Allows s.ring (.formatting { c with step := step }) := by cases step <;> simp_all [Ctl.Allows]
  have hready := lawful_of_inactive (s := { s with jc := { s.jc with state := .formatting { c with step := step }, work := none } })
    hallows rfl hinactive hheaded ⟨nofun, nofun⟩
  exact hready.startWork todo (hcalls _ _)

/-- R110: the scrub of a slot is begun. -/
theorem lawful_scrubSlot {s : State} (c : FormatCtx) (slot : Nat) (hring : s.ring.Sound) (hinactive : s.save.active = false)
    (hheaded : s.save ≠ .idle → s.front.queue ≠ []) : (s.scrubSlot c slot).Lawful :=
  lawful_formatTo _ hring hinactive hheaded (fun _ _ => .scrub rfl) (by simp)

/-- R110: the invalidation of a slot is begun. -/
theorem lawful_invalidate {s : State} (c : FormatCtx) (hring : s.ring.Sound) (hinactive : s.save.active = false)
    (hheaded : s.save ≠ .idle → s.front.queue ≠ []) : (s.invalidate c).Lawful := by
  unfold State.invalidate
  split
  · exact lawful_formatTo _ hring hinactive hheaded (fun _ _ => .invalidate0 rfl) (by simp)
  · exact lawful_formatTo _ hring hinactive hheaded (fun _ _ => .invalidate1 rfl) (by simp)

/-- R111: a format completes in OPEN. -/
theorem State.Lawful.formatComplete {s : State} {c : FormatCtx} (h : s.Lawful) (hk : s.jc.state = .formatting c)
    (hc : c.step = .clear) : s.formatComplete.Lawful := by
  have hring := h.ring
  simp only [hk, Ctl.Allows, hc] at hring
  have hwork := h.work_none (by simp [hk, hc, Ctl.quiet])
  have hrest : State.Lawful { s with jc := { s.jc with state := .opened } } :=
    lawful_at_rest (Or.inl rfl) hring hwork h.reserve h.headed
  exact hrest.congr (by simp [State.lawView, State.ring, State.capacity, State.formatComplete, State.startTimer])

theorem State.Lawful.formatStep {s t : State} {c : FormatCtx} (h : s.Lawful) (hk : s.jc.state = .formatting c)
    (ht : s.formatStep c = some t) : t.Lawful := by
  have hring := h.ring
  unfold State.formatStep at ht
  split at ht
  case h_1 hc =>
    simp only [hk, Ctl.Allows, hc] at hring
    split at ht
    · contradiction
    · rename_i hready
      cases ht
      simp only [Bool.or_eq_true, not_or] at hready
      have hinactive := inactive_of_not_inProgress hready.1
      unfold State.formatBegin
      split
      · exact lawful_scrubSlot c 0 hring hinactive h.headed
      · exact lawful_invalidate c hring hinactive h.headed
  case h_6 hc =>
    simp only [hk, Ctl.Allows, hc] at hring
    split at ht
    · contradiction
    · rename_i hready
      cases ht
      have hinactive := inactive_of_not_inProgress hready
      exact lawful_of_inactive hring (h.work_none (by simp [hk, hc, Ctl.quiet])) hinactive h.headed ⟨nofun, nofun⟩
  case h_7 hc =>
    split at ht
    · cases ht
      exact h.formatComplete hk hc
    · contradiction
  all_goals contradiction

/-- R114: the ring is emptied once no head is in progress. -/
theorem State.Lawful.clearingEmpty {s : State} {c : ClearCtx} (h : s.Lawful) (hk : s.jc.state = .clearing c)
    (hc : c.step = .headWait) (hready : ¬s.inProgress = true) : (s.clearingEmpty c).Lawful :=
  lawful_of_inactive ⟨(emptyRing_ring s).1, rfl⟩ (h.work_none (by simp [hk, hc, Ctl.quiet]))
    (inactive_of_not_inProgress hready) h.headed ⟨nofun, nofun⟩

/-- R31, R114: the clearing opens the next epoch on the empty ring, or enters DAMAGED. -/
theorem State.Lawful.clearingOpen {s : State} {c : ClearCtx} (h : s.Lawful) (hk : s.jc.state = .clearing c)
    (hc : c.step = .clear) : (s.clearingOpen c).Lawful := by
  have hring := h.ring
  simp only [hk, Ctl.Allows, hc] at hring
  obtain ⟨hclosed, hempty⟩ := hring
  have hinactive : s.save.active = false := by
    have hadmits := h.admitted
    simpa [hk, Ctl.Admits, hc] using hadmits
  have hsound : s.ring.Sound := ⟨hclosed.fits, hclosed.rising, by simp [hempty]⟩
  unfold State.clearingOpen
  split
  case h_1 => exact (h.endLong .failed).enterDamaged _ (endLong_ring s .failed ▸ hsound)
  case h_2 m hm =>
    exact lawful_of_inactive (openEpoch_ring false hclosed (by rwa [ring_number]))
      (h.work_none (by simp [hk, hc, Ctl.quiet])) hinactive h.headed ⟨nofun, nofun⟩

/-- R114: the table takes effect and the update is asked for once no head is in progress. -/
theorem State.Lawful.clearingApply {s : State} {c : ClearCtx} (h : s.Lawful) (hk : s.jc.state = .clearing c)
    (hc : c.step = .apply) (hready : ¬s.inProgress = true) : (s.clearingApply c).Lawful := by
  have hring := h.ring
  simp only [hk, Ctl.Allows, hc] at hring
  have happly := lawful_of_inactive (s := { s.applyCopy c.copy with
    jc := { (s.applyCopy c.copy).jc with state := .clearing { c with step := .anchor } } }) hring
    (h.work_none (by simp [hk, hc, Ctl.quiet])) (inactive_of_not_inProgress hready) h.headed ⟨nofun, nofun⟩
  exact happly.startUpdate _ (.clearing rfl)

theorem State.Lawful.clearingStep {s t : State} {c : ClearCtx} (h : s.Lawful) (hk : s.jc.state = .clearing c)
    (ht : s.clearingStep c = some t) : t.Lawful := by
  unfold State.clearingStep at ht
  split at ht
  case h_1 hc =>
    split at ht
    · contradiction
    · cases ht
      exact h.clearingEmpty hk hc ‹_›
  case h_2 hc =>
    split at ht
    · cases ht
      exact h.clearingOpen hk hc
    · contradiction
  case h_3 hc =>
    split at ht
    · contradiction
    · cases ht
      exact h.clearingApply hk hc ‹_›
  case h_4 => contradiction

/-! ### All the steps inside an event -/

theorem State.Lawful.ctlStep {s t : State} (h : s.Lawful) (ht : s.ctlStep = some t) : t.Lawful := by
  unfold State.ctlStep at ht
  split at ht
  case h_1 hk =>
    split at ht
    · cases ht
      exact h.startWork _ (by rw [hk]; exact .anchorRead)
    · contradiction
  case h_3 hk => exact h.recoveryStep hk ht
  case h_6 hk => exact h.commitStep hk ht
  case h_7 hk => exact h.rollbackStep hk ht
  case h_8 hk => exact h.discardStep hk ht
  case h_9 hk => exact h.formatStep hk ht
  case h_10 hk => exact h.clearingStep hk ht
  all_goals contradiction

theorem lawful_internalStep (s t : State) (ht : s.internalStep = some t) (h : s.Lawful) : t.Lawful :=
  internalStep_keeps (P := State.Lawful) (fun _ h => h.congr rfl) (fun _ _ ht h => h.ctlStep ht) (fun _ _ ht h => h.offerCkpt ht)
    (fun _ _ ht h => h.offerFallback ht) (fun _ _ ht h => h.headStep ht) (fun _ _ ht h => h.acceptStep ht) ht h

theorem State.Lawful.finish {s : State} (h : s.Lawful) (w : Bool) : (s.finish w).Lawful :=
  finish_keeps (P := State.Lawful) lawful_internalStep (fun _ _ _ h => h.congr rfl) w s h

/-- An event keeps the law when its own effect does. -/
theorem State.Lawful.event {s : State} {f : State → State} (h : s.Lawful) (hf : s.Lawful → (f s).Lawful) : (s.event f).Lawful :=
  event_keeps (P := State.Lawful) lawful_internalStep (fun _ _ _ h => h.congr rfl) s hf h

end Sys2Proof.Machine
end

section
/-! SUPPORT. The law of the ring kept by memory's answers: the saves, the replay, recovery and the ends of the transfers. -/

namespace Sys2Proof.Machine

/-! ### Memory's answers on the request path -/

/-- R53, R67: a PRE-IMAGE record added to the open epoch. -/
def RingView.record (r : RingView) : RingView :=
  { r with epoch := r.epoch.map fun x => (x.1, x.2 + 1), used := r.used + 1 }

theorem RingView.record_number (r : RingView) : r.record.number = r.number := by
  simp [RingView.number, RingView.record, Function.comp_def]

theorem RingView.Sound.record {r : RingView} (h : r.Sound) (hreserve : r.used + 2 ≤ r.slots) : r.record.Sound := by
  refine ⟨?_, h.rising, fun hpresent d hd => ?_⟩
  · show r.used + 1 ≤ r.slots
    omega
  · rw [r.record_number]
    exact h.below (by simpa [RingView.record] using hpresent) d hd

theorem RingView.Open.record {r : RingView} (h : r.Open) (hreserve : r.used + 2 ≤ r.slots) : r.record.Open := by
  obtain ⟨hrising, hbelow, hpresent, hcounted, hfree⟩ := h
  obtain ⟨x, hx⟩ := Option.isSome_iff_exists.1 hpresent
  refine ⟨hrising, fun d hd => r.record_number ▸ hbelow d hd, by simp [RingView.record, hx], ?_, ?_⟩
  · simp only [RingView.preImages, RingView.record, RingView.listed, hx, Option.map_some, Option.getD_some] at hcounted ⊢
    omega
  · show r.used + 1 < r.slots
    omega

/-- R53, R55: wherever a save past its free test is admitted, its record may be added. -/
theorem allows_record {k : Ctl} {r : RingView} {v : Save} {marked : Bool} (h : k.Allows r) (hactive : v.active = true)
    (hadmits : k.Admits v marked) (hreserve : r.used + 2 ≤ r.slots) : k.Allows r.record := by
  have hidle : v ≠ .idle := fun hv => by simp [hv, Save.active] at hactive
  cases k
  case anchorRead | unformatted | recovering => exact absurd (hactive.symm.trans hadmits) nofun
  case opened | unguarded => exact RingView.Open.record h hreserve
  case damaged => exact RingView.Sound.record h hreserve
  case discarding => exact ⟨h.1.record hreserve, h.2⟩
  case committing c =>
    obtain ⟨hc, -⟩ := hadmits.resolve_left hidle
    simp only [Ctl.Allows, hc] at h ⊢
    exact h.record hreserve
  case rollingBack c =>
    obtain ⟨hc, -⟩ := hadmits.resolve_left hidle
    simp only [Ctl.Allows, hc, RingView.record_number] at h ⊢
    exact ⟨h.1.record hreserve, h.2⟩
  case formatting c | clearing c =>
    have hc := hadmits.resolve_left (by simp [hactive])
    simp only [Ctl.Allows, hc] at h ⊢
    exact h.record hreserve

/-- Where a save past its free test is admitted, any is. -/
theorem admits_of_active {k : Ctl} {v : Save} {marked : Bool} (hactive : v.active = true) (hadmits : k.Admits v marked)
    (v' : Save) : k.Admits v' marked := by
  have hidle : v ≠ .idle := fun hv => by simp [hv, Save.active] at hactive
  cases k <;> simp_all [Ctl.Admits]

/-- R66, R67: a save past its free test goes on to its next transaction. -/
theorem State.Lawful.saveOn {s t : State} (h : s.Lawful) (v : Save) (hactive : s.save.active = true)
    (hview : t.lawView = State.lawView { s with save := v }) : t.Lawful := by
  have hidle : s.save ≠ .idle := fun hv => by simp [hv, Save.active] at hactive
  exact h.withSave v hview (fun _ => h.reserve hactive) (admits_of_active hactive h.admitted v) (h.headed hidle)

/-- R67: the record is complete and the write is released. -/
theorem State.Lawful.saveComplete {s : State} (h : s.Lawful) (hactive : s.save.active = true) (t : Nat) :
    (s.saveComplete t).Lawful := by
  have hidle : s.save ≠ .idle := fun hv => by simp [hv, Save.active] at hactive
  unfold State.saveComplete State.perform
  simp only
  split
  · exact absurd ‹_› (h.headed hidle)
  · refine ⟨?_, h.work, h.drained, nofun, admits_idle _ _, fun hne => absurd rfl hne⟩
    have hring := allows_record h.ring hactive h.admitted (h.reserve hactive)
    have hview : s.ring.record = { s.ring with
        epoch := (s.jc.epoch.map fun e => { e with preImages := e.preImages + 1 }).map fun e => (e.number, e.preImages)
        used := s.jc.occupancy + 1 } := by
      simp [RingView.record, State.ring, Function.comp_def]
    rw [hview] at hring
    exact hring

theorem State.Lawful.countWrite {s : State} (h : s.Lawful) : s.countWrite.Lawful :=
  h.congr (by simp [State.lawView, State.ring, State.capacity, State.countWrite, Function.comp_def, OpenEpoch.countWrite])

theorem State.Lawful.ownOkay {s : State} (h : s.Lawful) (counts : Bool) (data : List Byte) : (s.ownOkay counts data).Lawful := by
  unfold State.ownOkay
  split
  · exact h.countWrite.respond _ _
  · exact h.respond _ _

theorem State.Lawful.requestResponse {s : State} (h : s.Lawful) (a : MemAnswer) : (s.requestResponse a).Lawful := by
  unfold State.requestResponse
  split
  case h_1 =>
    split
    · exact h.respond _ _
    · exact h
  case h_2 data =>
    split
    case h_1 g t hsave =>
      unfold State.saveReadOkay
      simp only
      split
      · exact h
      · exact h.saveOn _ (by rw [hsave]; rfl) rfl
    case h_2 g t payload bytes left hsave =>
      split
      · exact h.saveComplete (by rw [hsave]; rfl) t
      · exact h.saveOn _ (by rw [hsave]; rfl) rfl
    case h_3 | h_4 =>
      split
      · exact h.ownOkay _ _
      · exact h

/-! ### The replay -/

theorem State.Lawful.readWalk {s : State} {w : Walk} (h : s.Lawful) (hw : s.jc.state.walk = some w) : (s.readWalk w).Lawful := by
  unfold State.readWalk
  split
  · exact h
  · exact h.startWork _ (.replayRead hw (Nat.one_le_iff_ne_zero.2 ‹_›))

/-- A replay is a step of a rollback or of recovery. -/
theorem walk_eq_some {k : Ctl} {w : Walk} (h : k.walk = some w) :
    (∃ c, k = .rollingBack c ∧ c.step = .replay w) ∨ ∃ c course, k = .recovering c ∧ c.step = .replay course w := by
  cases k
  case rollingBack c => cases hc : c.step <;> simp_all [Ctl.walk]
  case recovering c => cases hc : c.step <;> simp_all [Ctl.walk]
  all_goals contradiction

theorem State.Lawful.sound_of_walk {s : State} {w : Walk} (h : s.Lawful) (hw : s.jc.state.walk = some w) : s.ring.Sound := by
  have hring := h.ring
  rcases walk_eq_some hw with ⟨c, hk, hc⟩ | ⟨c, course, hk, hc⟩
  · simp only [hk, Ctl.Allows, hc] at hring
    exact hring.1.sound
  · simp only [hk, Ctl.Allows, hc] at hring
    exact hring.1.toSound

/-- R126, R144: a replay that fails leaves DAMAGED. -/
theorem State.Lawful.replayFailed {s : State} {w : Walk} (h : s.Lawful) (hw : s.jc.state.walk = some w) :
    s.replayFailed.Lawful := by
  have hended : ((s.endLong .failed).endReport .damaged).Lawful := (h.endLong .failed).congr rfl
  exact hended.enterDamaged _ ((endLong_ring s .failed).symm ▸ h.sound_of_walk hw)

/-- Another walk in a replay changes nothing that the law asks of the ring and the front port. -/
theorem setWalk_of_walk {k : Ctl} {w : Walk} (hw : k.walk = some w) (w' : Walk) :
    (k.setWalk w').walk = some w' ∧ (∀ r, k.Allows r → (k.setWalk w').Allows r) ∧ (k.setWalk w').pastDrain = k.pastDrain ∧
      ∀ v marked, k.Admits v marked → (k.setWalk w').Admits v marked := by
  rcases walk_eq_some hw with ⟨c, rfl, hc⟩ | ⟨c, course, rfl, hc⟩ <;>
    simp [hc, Ctl.setWalk, Ctl.walk, Ctl.Allows, RecoveryCtx.commits, Ctl.pastDrain, Ctl.Admits]

/-- R124: the replay goes on to the next slot. -/
theorem State.Lawful.advanceWalk {s : State} {w : Walk} (h : s.Lawful) (hwork : s.jc.work = none)
    (hw : s.jc.state.walk = some w) : (s.advanceWalk w).Lawful := by
  unfold State.advanceWalk
  obtain ⟨hwalk, hring, hpast, hadmits⟩ := setWalk_of_walk hw
    { slot := slotBefore s.capacity w.slot, left := w.left - 1, expected := w.expected - 1 }
  exact State.Lawful.readWalk ⟨hring _ h.ring, calls_of_none hwork, fun hp => h.drained (hpast ▸ hp), h.reserve,
    hadmits _ _ h.admitted, h.headed⟩ hwalk

/-- R124, R125: a record of the replay has been read. -/
theorem State.Lawful.replayRecord {s : State} {w : Walk} (h : s.Lawful) (hwork : s.jc.work = none)
    (hw : s.jc.state.walk = some w) (hleft : 1 ≤ w.left) (bytes : List Byte) : (s.replayRecord bytes).Lawful := by
  unfold State.replayRecord
  simp only [hw]
  split
  · exact h.replayFailed hw
  · split
    · exact h.startWork _ (.replayWrite hw hleft)
    · exact h.advanceWalk hwork hw

theorem State.Lawful.replayWritten {s : State} {w : Walk} (h : s.Lawful) (hwork : s.jc.work = none)
    (hw : s.jc.state.walk = some w) : s.replayWritten.Lawful := by
  unfold State.replayWritten
  simp only [hw]
  exact State.Lawful.advanceWalk (s := { s with events := { s.events with
    report := s.events.report.map fun r => { r with replayed := r.replayed + 1 } } }) (h.congr rfl) hwork hw

/-! ### The scan and the courses of recovery -/

theorem dropOldest_rest (s : State) : s.dropOldest.jc.work = s.jc.work ∧ s.dropOldest.save = s.save ∧
    s.dropOldest.front = s.front ∧ s.dropOldest.jc.state = s.jc.state := by
  unfold State.dropOldest
  split <;> exact ⟨rfl, rfl, rfl, rfl⟩

/-- R87 to R89: the directory steps touch neither the transfer nor the front port. -/
theorem closeEpoch_rest (s : State) (d : DirEntry) : (s.closeEpoch d).jc.work = s.jc.work ∧ (s.closeEpoch d).save = s.save ∧
    (s.closeEpoch d).front = s.front := by
  have hover : (s.appendEntry d).overflowDrop.jc.work = s.jc.work ∧ (s.appendEntry d).overflowDrop.save = s.save ∧
      (s.appendEntry d).overflowDrop.front = s.front := by
    unfold State.overflowDrop
    split
    · obtain ⟨hwork, hsave, hfront, -⟩ := dropOldest_rest (s.appendEntry d)
      exact ⟨hwork, hsave, hfront⟩
    · exact ⟨rfl, rfl, rfl⟩
  unfold State.closeEpoch State.forcedDrop
  split
  · obtain ⟨hwork, hsave, hfront, -⟩ := dropOldest_rest (s.appendEntry d).overflowDrop
    obtain ⟨hwork', hsave', hfront'⟩ := hover
    exact ⟨hwork.trans hwork', hsave.trans hsave', hfront.trans hfront'⟩
  · exact hover

/-- R87: the entry of the open epoch, appended behind the others, fills the ring when its record has been counted. -/
theorem filled_append {s : State} {e : OpenEpoch} {i : CommitInfo} (he : s.jc.epoch = some e)
    (hrising : directoryRising s.jc.directory = true) (hbelow : ∀ d ∈ s.jc.directory, d.number < s.ring.number)
    (hcounted : s.jc.occupancy = slotTotal s.jc.directory + i.preImages + 1) (hfits : s.jc.occupancy ≤ s.capacity) :
    RingView.Filled { s.ring with entries := s.jc.directory ++ [entryOf e i] } := by
  have hnumber : s.ring.number = e.number := by simp [ring_number, State.openNumber, he]
  rw [hnumber] at hbelow
  refine ⟨directoryRising_append hrising hbelow (Nat.le_add_left 1 _), fun d hd => ?_, ?_, hfits⟩
  · show d.number ≤ s.ring.number
    rw [hnumber]
    rcases List.mem_append.1 hd with hd | hd
    · exact BitVec.le_of_lt (hbelow d hd)
    · rw [List.mem_singleton.1 hd]
      exact BitVec.le_refl _
  · show s.jc.occupancy = slotTotal (s.jc.directory ++ [entryOf e i])
    rw [slotTotal_append, hcounted]
    exact Nat.add_assoc _ _ _

/-- R141, R143 to R148: what the scan must have left for the steps of a course to keep the law. -/
structure State.Scanned (c : RecoveryCtx) (s : State) : Prop where
  ring : s.ring.Replayed c.commits
  number : s.ring.number = c.openNumber
  found : ∀ i, c.found = some i → i.preImages = s.ring.preImages
  work : s.jc.work = none
  inactive : s.save.active = false
  headed : s.save ≠ .idle → s.front.queue ≠ []

/-- R144, R148: a replay of recovery begins. -/
theorem lawful_beginRedo {s : State} {c : RecoveryCtx} (h : s.Scanned c) (k : Course) (n : Word) :
    (s.beginRedo c k n).Lawful := by
  unfold State.beginRedo
  exact State.Lawful.readWalk (lawful_of_inactive ⟨h.ring, h.number⟩ h.work h.inactive h.headed ⟨nofun, nofun⟩) rfl

/-- R146: the roll-forward's directory steps. -/
theorem lawful_rollForward {s : State} {c : RecoveryCtx} {e : OpenEpoch} {i : CommitInfo} (h : s.Scanned c)
    (he : s.jc.epoch = some e) (hi : c.found = some i) (dropped : Bool) :
    State.Lawful { s.closeEpoch (entryOf e i) with jc := { (s.closeEpoch (entryOf e i)).jc with
      state := .recovering { c with dropped := dropped, step := .tagWait .forward } } } := by
  obtain ⟨⟨⟨hfits, hrising, hbelow⟩, hpresent, hcounted, -⟩, hnumber, hfound, hwork, hinactive, hheaded⟩ := h
  have hcommits : c.commits = 1 := by simp [RecoveryCtx.commits, hi]
  rw [hcommits, ← hfound i hi] at hcounted
  obtain ⟨hclosed, hepoch⟩ := closeEpoch_ring (filled_append (i := i) he hrising (hbelow hpresent) hcounted hfits)
  obtain ⟨hwork', hsave', hfront'⟩ := closeEpoch_rest s (entryOf e i)
  have hnumber' : (s.closeEpoch (entryOf e i)).ring.number = s.ring.number := by rw [RingView.number, hepoch]; rfl
  refine lawful_of_inactive ⟨hclosed, hepoch ▸ hpresent, hnumber'.trans hnumber, fun hne => absurd rfl hne⟩
    (hwork'.trans hwork) ?_ ?_ ⟨nofun, nofun⟩
  · show (s.closeEpoch (entryOf e i)).save.active = false
    rw [hsave', hinactive]
  · show (s.closeEpoch (entryOf e i)).save ≠ .idle → (s.closeEpoch (entryOf e i)).front.queue ≠ []
    rw [hsave', hfront']
    exact hheaded

/-- R143 to R148: each course's own steps keep the law. -/
theorem lawful_takeCourse {s : State} {c : RecoveryCtx} {k : Course} (h : s.Scanned c)
    (hk : k = .forward → c.found.isSome = true) : (s.takeCourse c k).Lawful := by
  unfold State.takeCourse
  cases k
  case redo => exact lawful_beginRedo h _ _
  case undo => exact lawful_beginRedo h _ _
  case broken =>
    obtain ⟨hclosed, hsound⟩ := emptyRing_ring s
    exact lawful_of_inactive ⟨hclosed, h.ring.present, h.number, fun _ => hsound⟩ h.work h.inactive h.headed ⟨nofun, nofun⟩
  case forward =>
    obtain ⟨i, hi⟩ := Option.isSome_iff_exists.1 (hk rfl)
    obtain ⟨e, he⟩ := Option.isSome_iff_exists.1 ((ring_present s).symm.trans h.ring.present)
    simpa only [he, hi] using lawful_rollForward h he hi (s.closeDrops (entryOf e i))

/-- R143: a roll-forward is for a COMMIT record found. -/
theorem course_forward {c : RecoveryCtx} {broken : Bool} (h : c.course broken = .forward) : c.found.isSome = true := by
  unfold RecoveryCtx.course at h
  split_ifs at h
  assumption

/-- What the scan's end must find: with `count` records of the open epoch counted, those of its pre-images and a COMMIT record. -/
structure State.ScanEnds (c : RecoveryCtx) (count : Nat) (s : State) : Prop where
  rising : directoryRising s.jc.directory = true
  below : ∀ d ∈ s.jc.directory, d.number < s.ring.number
  present : s.ring.epoch.isSome = true
  number : s.ring.number = c.openNumber
  counted : count = s.ring.preImages + c.commits
  found : ∀ i, c.found = some i → i.preImages = s.ring.preImages
  room : s.ring.listed < s.capacity
  fits : s.ring.listed + count ≤ s.capacity
  work : s.jc.work = none
  inactive : s.save.active = false
  headed : s.save ≠ .idle → s.front.queue ≠ []

/-- R141, R143: the scan's end keeps the law. -/
theorem lawful_endScan {s : State} {c : RecoveryCtx} {count : Nat} (h : s.ScanEnds c count) (head : Nat) :
    (s.endScan c count head).Lawful := by
  refine lawful_takeCourse ⟨⟨⟨h.fits, h.rising, fun _ => h.below⟩, h.present, ?_, h.room⟩, h.number, h.found, h.work,
    h.inactive, h.headed⟩ course_forward
  show s.ring.listed + count = s.ring.listed + s.ring.preImages + c.commits
  rw [h.counted]
  exact (Nat.add_assoc _ _ _).symm

/-- R140: what a lawful state's scan gives for its end, with no COMMIT record found yet. -/
theorem State.Lawful.ring_of_scan {s : State} {c : RecoveryCtx} {n slot : Nat} (h : s.Lawful) (hk : s.jc.state = .recovering c)
    (hc : c.step = .scan n slot) : s.ring.Scanned n ∧ s.ring.number = c.openNumber ∧ c.found = none := by
  have hring := h.ring
  simpa only [hk, Ctl.Allows, hc] using hring

theorem State.Lawful.scanEnds {s : State} {c : RecoveryCtx} {n slot : Nat} (h : s.Lawful) (hk : s.jc.state = .recovering c)
    (hc : c.step = .scan n slot) (hwork : s.jc.work = none) : s.ScanEnds c n := by
  obtain ⟨hscan, hnumber, hfound⟩ := h.ring_of_scan hk hc
  obtain ⟨⟨hfits, hrising, hbelow⟩, hpresent, hcount, hroom⟩ := hscan
  have hcommits : c.commits = 0 := by simp [RecoveryCtx.commits, hfound]
  refine ⟨hrising, hbelow hpresent, hpresent, hnumber, by rw [hcount, hcommits, Nat.add_zero], by simp [hfound],
    Nat.lt_of_le_of_lt (Nat.le_add_right _ n) hroom, Nat.le_of_lt hroom, hwork, h.inactive_of_recovering hk, h.headed⟩

/-- R140: a COMMIT record that counts the pre-images before it ends the scan. -/
theorem State.Lawful.scanEnds_found {s : State} {c : RecoveryCtx} {n slot : Nat} (h : s.Lawful)
    (hk : s.jc.state = .recovering c) (hc : c.step = .scan n slot) (hwork : s.jc.work = none) {i : CommitInfo}
    (hi : i.preImages = n) : s.ScanEnds { c with found := some i } (n + 1) := by
  have hends := h.scanEnds hk hc hwork
  obtain ⟨⟨-, -, hcount, hroom⟩, -, -⟩ := h.ring_of_scan hk hc
  refine { hends with counted := ?_, found := ?_, fits := hroom }
  · rw [hcount]; rfl
  · rintro _ ⟨⟩
    rw [hi, hcount]

/-- R140: the scan has counted a pre-image. -/
def State.preImageScanned (s : State) : State :=
  { s with jc := { s.jc with epoch := s.jc.epoch.map fun e => { e with preImages := e.preImages + 1 } } }

theorem preImageScanned_ring {s : State} (hpresent : s.ring.epoch.isSome = true) :
    s.preImageScanned.ring.epoch.isSome = true ∧ s.preImageScanned.ring.number = s.ring.number ∧
      s.preImageScanned.ring.preImages = s.ring.preImages + 1 := by
  rw [ring_present] at hpresent
  obtain ⟨e, he⟩ := Option.isSome_iff_exists.1 hpresent
  simp [State.preImageScanned, State.ring, RingView.number, RingView.preImages, he]

/-- R140: a pre-image counted with room behind it: the scan reads the next slot. -/
theorem State.Lawful.scanOn {s : State} {c : RecoveryCtx} {n slot : Nat} (h : s.Lawful) (hk : s.jc.state = .recovering c)
    (hc : c.step = .scan n slot) (hwork : s.jc.work = none) (hroom : s.ring.listed + (n + 1) < s.capacity) (next : Nat) :
    State.Lawful (State.scanRead next { s.preImageScanned with
      jc := { s.preImageScanned.jc with state := .recovering { c with step := .scan (n + 1) next } } }) := by
  obtain ⟨⟨⟨hfits, hrising, hbelow⟩, hpresent, hcount, -⟩, hnumber, hfound⟩ := h.ring_of_scan hk hc
  obtain ⟨hpresent', hnumber', hcount'⟩ := preImageScanned_ring hpresent
  refine State.Lawful.startWork ?_ _ (.scan rfl)
  refine lawful_of_inactive ?_ hwork (h.inactive_of_recovering hk) h.headed ⟨nofun, nofun⟩
  refine ⟨⟨⟨hfits, hrising, fun _ d hd => ?_⟩, hpresent', by rw [← hcount]; exact hcount', hroom⟩,
    hnumber'.trans hnumber, hfound⟩
  exact hnumber'.symm ▸ hbelow hpresent d hd

/-- R141: the pre-image that fills the ring ends the scan. -/
theorem State.Lawful.scanEnds_full {s : State} {c : RecoveryCtx} {n slot : Nat} (h : s.Lawful)
    (hk : s.jc.state = .recovering c) (hc : c.step = .scan n slot) (hwork : s.jc.work = none) :
    s.preImageScanned.ScanEnds c (n + 1) := by
  obtain ⟨hrising, hbelow, hpresent, hnumber, hcounted, hfound, hlisted, hfits, -, hinactive, hheaded⟩ := h.scanEnds hk hc hwork
  obtain ⟨⟨-, -, -, hroom⟩, -, hnone⟩ := h.ring_of_scan hk hc
  obtain ⟨hpresent', hnumber', hcount'⟩ := preImageScanned_ring hpresent
  refine ⟨hrising, fun d hd => hnumber'.symm ▸ hbelow d hd, hpresent', hnumber'.trans hnumber, ?_, by simp [hnone], hlisted,
    hroom, hwork, hinactive, hheaded⟩
  rw [hcount']
  omega

/-- Log 18: the bytes of a whole anchor read or of a whole scanned record are what a 2410 wrote, or no anchor and no record. -/
structure State.BytesGenuine (bytes : List Byte) (s : State) : Prop where
  anchor : s.jc.state = .anchorRead → ∀ t a, newestAnchor (validAnchor .slot0 s.jbase s.jsize (bytes.take 512))
    (validAnchor .slot1 s.jbase s.jsize (bytes.drop 512)) = some (t, a) → a.genuine s.capacity = true
  record : ∀ c n slot r i, s.jc.state = .recovering c → c.step = .scan n slot →
    validRecord slot s.anchor.format ((s.jc.epoch.map OpenEpoch.firstSeq).getD 0 + BitVec.ofNat 32 n) c.openNumber c.openNumber
      bytes = some r → r.body = .commit i → i.preImages = n

theorem bytesGenuine_of_reads {s : State} {w : Work} {t : Request} {data : List Byte} (h : s.readsGenuine data = true)
    (hwork : s.jc.work = some w) (htodo : w.todo = [t]) : s.BytesGenuine (w.got ++ data.take t.returnSize) := by
  unfold State.readsGenuine at h
  simp only [hwork, htodo] at h
  constructor
  · intro hk t a hnewest
    simpa [hk, hnewest] using h
  · intro c n slot r i hk hc hvalid hbody
    simp only [hk, hc, hvalid, hbody, beq_iff_eq] at h
    exact h

/-- R140, R141: a record read by the scan keeps the law. -/
theorem State.Lawful.scanRecord {s : State} {c : RecoveryCtx} {n slot : Nat} {bytes : List Byte} (h : s.Lawful)
    (hk : s.jc.state = .recovering c) (hc : c.step = .scan n slot) (hwork : s.jc.work = none) (hgenuine : s.BytesGenuine bytes) :
    (s.scanRecord c n slot bytes).Lawful := by
  unfold State.scanRecord
  simp only
  split
  case h_1 => exact lawful_endScan (h.scanEnds hk hc hwork) slot
  case h_2 r hvalid =>
    split
    case h_1 i hbody =>
      exact lawful_endScan (h.scanEnds_found hk hc hwork (hgenuine.record c n slot r i hk hc hvalid hbody)) _
    case h_2 =>
      split
      · exact lawful_endScan (h.scanEnds_full hk hc hwork) _
      · exact h.scanOn hk hc hwork (Nat.lt_of_not_le ‹_›) _

/-- R142: a scan that fails leaves DAMAGED. -/
theorem State.Lawful.scanFailed {s : State} {c : RecoveryCtx} {n slot : Nat} (h : s.Lawful) (hk : s.jc.state = .recovering c)
    (hc : c.step = .scan n slot) : s.scanFailed.Lawful := by
  obtain ⟨⟨⟨-, hrising, hbelow⟩, -, -, hroom⟩, -, -⟩ := h.ring_of_scan hk hc
  have hinactive := h.inactive_of_recovering hk
  unfold State.scanFailed
  simp only [hk, hc]
  exact lawful_enterDamaged (s := s.scanPointers n slot) _ ⟨Nat.le_of_lt hroom, hrising, hbelow⟩
    (fun hactive => absurd (hinactive.symm.trans hactive) nofun) h.headed

/-! ### The anchor read -/

theorem genuine_iff (cap : Nat) (a : Anchor) : a.genuine cap = true ↔ directoryRising a.directory = true ∧
    (∀ d ∈ a.directory, d.number < a.openNumber) ∧ slotTotal a.directory < cap ∧ a.occupancy ≤ cap := by
  simp [Anchor.genuine, and_assoc]

/-- R138, R139: what the anchor read finds keeps the law. -/
theorem State.Lawful.judgeAnchors {s : State} {bytes : List Byte} (h : s.Lawful) (hk : s.jc.state = .anchorRead)
    (hwork : s.jc.work = none) (hgenuine : s.BytesGenuine bytes) : (s.judgeAnchors bytes).Lawful := by
  have hring := h.ring
  have hinactive := h.admitted
  rw [hk] at hring hinactive
  unfold State.judgeAnchors
  split
  case h_1 => exact lawful_of_inactive hring hwork hinactive h.headed ⟨nofun, nofun⟩
  case h_2 t a hnewest =>
    obtain ⟨hrising, hbelow, hlisted, hfits⟩ := (genuine_iff _ a).1 (hgenuine.anchor hk t a hnewest)
    refine State.Lawful.startWork ?_ _ (.scan rfl)
    refine lawful_of_inactive ?_ hwork hinactive h.headed ⟨nofun, nofun⟩
    exact ⟨⟨⟨hfits, hrising, fun _ => hbelow⟩, rfl, rfl, hlisted⟩, rfl, rfl⟩

/-! ### The ends of the controller's transfers -/

/-- R85, R87 to R90: the COMMIT record is complete and the epoch's entry listed. -/
theorem State.Lawful.commitRecordDone {s : State} {c : CommitCtx} {i : CommitInfo} (h : s.Lawful)
    (hk : s.jc.state = .committing c) (hc : c.step = .record i) (hwork : s.jc.work = none) :
    (s.commitRecordDone c i).Lawful := by
  have hring := h.ring
  simp only [hk, Ctl.Allows, hc] at hring
  obtain ⟨⟨hrising, hbelow, hpresent, hcounted, hfree⟩, hcount⟩ := hring
  have hpast : c.step ≠ .drain := by simp [hc]
  have hnone := h.noneMarked_of_committing hk hpast
  have hidle := h.idle_of_committing hk hpast
  unfold State.commitRecordDone
  split
  · exact h
  · rename_i e he
    have hused : s.recordAdded.jc.occupancy = slotTotal s.jc.directory + i.preImages + 1 := by
      rw [hcount]
      exact congrArg (· + 1) hcounted
    obtain ⟨hclosed, hepoch⟩ := closeEpoch_ring (filled_append (s := s.recordAdded) (i := i) he hrising hbelow hused hfree)
    obtain ⟨hwork', hsave', hfront'⟩ := closeEpoch_rest s.recordAdded (entryOf e i)
    have hlaw (dropped : Bool) : State.Lawful { s.recordAdded.closeEpoch (entryOf e i) with
        jc := { (s.recordAdded.closeEpoch (entryOf e i)).jc with
          state := .committing { c with dropped := dropped, step := .tagWait } } } := by
      refine lawful_of_idle ⟨hclosed, hepoch ▸ hpresent⟩ (hwork'.trans hwork) (fun _ => ?_) (hsave'.trans hidle)
      show State.noneMarked (s.recordAdded.closeEpoch (entryOf e i)) = true
      rw [State.noneMarked, hfront']
      exact hnone
    simp only
    split
    · exact (hlaw _).congr rfl
    · exact hlaw _

/-- A state in which an operation has ended with an open ring: OPEN or UNGUARDED, with the queue's marks removed or not. -/
theorem State.Lawful.toRest {s t : State} (h : s.Lawful) (hctl : t.jc.state = .opened ∨ t.jc.state = .unguarded)
    (hopen : s.ring.Open) (hring : t.ring = s.ring) (hwork : t.jc.work = none) (hsave : t.save = s.save)
    (hqueue : t.front.queue = s.front.queue ∨ t.front.queue = unmarkAll s.front.queue) : t.Lawful := by
  refine lawful_at_rest hctl (hring ▸ hopen) hwork ?_ ?_
  · rw [hsave, hring]
    exact h.reserve
  · rw [hsave]
    intro hne
    rcases hqueue with hq | hq <;> rw [hq]
    · exact h.headed hne
    · exact mt unmarkAll_eq_nil.1 (h.headed hne)

/-- R86: a COMMIT record whose write failed leaves OPEN or UNGUARDED, and the latches are offered. -/
theorem State.Lawful.commitRecordFailed {s : State} {c : CommitCtx} {i : CommitInfo} (h : s.Lawful)
    (hk : s.jc.state = .committing c) (hc : c.step = .record i) : s.commitRecordFailed.Lawful := by
  have hring := h.ring
  simp only [hk, Ctl.Allows, hc] at hring
  unfold State.commitRecordFailed
  refine State.Lawful.offerLatches (h.toRest ?_ hring.1 ?_ rfl ?_ (Or.inr ?_))
  · by_cases hbroken : ((s.endLong .failed).raise .sealFailed).openBroken = true <;> simp [State.startTimer, hbroken]
  all_goals simp [State.ring, State.capacity, State.startTimer]

/-- R93: the commit completes. -/
theorem State.Lawful.commitComplete {s : State} {c : CommitCtx} (h : s.Lawful) (hk : s.jc.state = .committing c)
    (hc : c.step = .anchor) (hwork : s.jc.work = none) : (s.commitComplete c).Lawful := by
  have hring := h.ring
  simp only [hk, Ctl.Allows, hc] at hring
  refine h.toRest (Or.inl rfl) hring ?_ ?_ ?_ (Or.inr ?_)
  all_goals simp [State.commitComplete, State.ring, State.capacity, State.startTimer, State.unmark, hwork]

/-- R123: an intent that failed leaves OPEN, and the latches are offered. -/
theorem State.Lawful.intentFailed {s : State} {c : RollbackCtx} (h : s.Lawful) (hk : s.jc.state = .rollingBack c)
    (hc : c.step = .intent) (hwork : s.jc.work = none) : s.intentFailed.Lawful := by
  have hring := h.ring
  simp only [hk, Ctl.Allows, hc] at hring
  unfold State.intentFailed
  refine State.Lawful.offerLatches (h.toRest (Or.inl rfl) hring.1 ?_ ?_ ?_ (Or.inr ?_))
  all_goals simp [State.ring, State.capacity, State.startTimer, State.unmark, hwork]

/-- R122, R124: the replay of a rollback begins. -/
theorem State.Lawful.intentDone {s : State} {c : RollbackCtx} (h : s.Lawful) (hk : s.jc.state = .rollingBack c)
    (hc : c.step = .intent) (hwork : s.jc.work = none) : (s.intentDone c).Lawful := by
  have hring := h.ring
  simp only [hk, Ctl.Allows, hc] at hring
  have hpast : c.step ≠ .drain := by simp [hc]
  have hnone := h.noneMarked_of_rollingBack hk hpast
  unfold State.intentDone
  refine State.Lawful.readWalk ?_ rfl
  exact lawful_of_idle hring hwork (fun _ => hnone) (h.idle_of_rollingBack hk hpast)

/-- R131: the rollback completes. -/
theorem State.Lawful.rollbackComplete {s : State} {c : RollbackCtx} (h : s.Lawful) (hk : s.jc.state = .rollingBack c)
    (hc : c.step = .anchor) (hwork : s.jc.work = none) : s.rollbackComplete.Lawful := by
  have hring := h.ring
  simp only [hk, Ctl.Allows, hc] at hring
  refine h.toRest (Or.inl rfl) hring ?_ ?_ ?_ (Or.inr ?_)
  all_goals simp [State.rollbackComplete, State.ring, State.capacity, State.startTimer, State.unmark, hwork]

/-- R150: recovery completes, and the waiting head is examined. -/
theorem State.Lawful.recoveryComplete {s : State} {c : RecoveryCtx} {k : Course} (h : s.Lawful)
    (hk : s.jc.state = .recovering c) (hc : c.step = .anchor k) (hwork : s.jc.work = none) :
    (s.recoveryComplete c k).Lawful := by
  have hring := h.ring
  simp only [hk, Ctl.Allows, hc] at hring
  unfold State.recoveryComplete
  refine State.Lawful.examineHead (h.toRest ?_ hring ?_ ?_ ?_ (Or.inl ?_))
  · by_cases hbroken : k = .broken <;> simp [State.startTimer, hbroken]
  all_goals simp [State.ring, State.capacity, State.startTimer, hwork]

/-- R108: the discard completes: the set's entries and slots go. -/
theorem State.Lawful.discardComplete {s : State} {c : DiscardCtx} (h : s.Lawful) (hk : s.jc.state = .discarding c)
    (hwork : s.jc.work = none) : (s.discardComplete c).Lawful := by
  have hring := h.ring
  rw [hk] at hring
  obtain ⟨⟨hrising, hbelow, hpresent, hcounted, hfree⟩, hfreed⟩ := hring
  have hview : (s.discardComplete c).ring =
      { s.ring with entries := s.jc.directory.drop c.count, used := s.jc.occupancy - c.freed } := by
    simp [State.discardComplete, State.ring, State.capacity]
  have hsub : (s.jc.directory.drop c.count).Sublist s.jc.directory := List.drop_sublist _ _
  have hsplit := slotTotal_take_add_drop c.count s.jc.directory
  change s.jc.occupancy = slotTotal s.jc.directory + s.ring.preImages at hcounted
  change c.freed = slotTotal (s.jc.directory.take c.count) at hfreed
  refine lawful_at_rest ?_ (hview ▸ ⟨directoryRising_sublist hsub hrising, fun d hd => hbelow d (hsub.subset hd), hpresent, ?_,
    Nat.lt_of_le_of_lt (Nat.sub_le _ _) hfree⟩) ?_ ?_ ?_
  · by_cases hfrom : c.fromUnguarded = true <;> simp [State.discardComplete, hfrom]
  · show s.jc.occupancy - c.freed = slotTotal (s.jc.directory.drop c.count) + s.ring.preImages
    omega
  · simpa [State.discardComplete] using hwork
  · rw [hview]
    simp only [State.discardComplete, endLong_save]
    intro hactive
    have hreserve := h.reserve hactive
    change s.jc.occupancy + 2 ≤ s.ring.slots at hreserve
    show s.jc.occupancy - c.freed + 2 ≤ s.ring.slots
    omega
  · simpa [State.discardComplete] using h.headed

/-- R114: the clearing completes. -/
theorem State.Lawful.clearingComplete {s : State} {c : ClearCtx} (h : s.Lawful) (hk : s.jc.state = .clearing c)
    (hc : c.step = .anchor) (hwork : s.jc.work = none) : s.clearingComplete.Lawful := by
  have hring := h.ring
  simp only [hk, Ctl.Allows, hc] at hring
  refine h.toRest (Or.inl rfl) hring ?_ ?_ ?_ (Or.inl ?_)
  all_goals simp [State.clearingComplete, State.ring, State.capacity, State.startTimer, hwork]

/-- With no transfer under way a reclaim or unguard that ends keeps the law. -/
theorem State.Lawful.clearRoom {s : State} (h : s.Lawful) (hwork : s.jc.work = none) :
    State.Lawful { s with jc := { s.jc with room := none } } :=
  ⟨h.ring, calls_of_none hwork, h.drained, h.reserve, h.admitted, h.headed⟩

/-- R57, R58: a reclaim's update completed. -/
theorem State.Lawful.reclaimDone {s : State} (h : s.Lawful) (hk : s.jc.state.reclaims = true) (hwork : s.jc.work = none) :
    s.reclaimDone.Lawful := by
  have hraised : (s.raise .reclaimed).Lawful := h.congr rfl
  have hended := hraised.clearRoom hwork
  unfold State.reclaimDone
  simp only
  split
  case h_1 g n hsave =>
    have hadmits := hraised.admitted
    rw [hsave] at hadmits
    have hasks : (s.raise .reclaimed).jc.state.asksRoom = true := asksRoom_of_admits hadmits (Or.inl hk)
    split
    · exact hended
    · split
      · exact hraised.reclaimStep hasks
      · exact hraised.unguardStep hasks
  all_goals exact hended

/-- R60, R61: what the end of an unguard's update leaves, before a write in ROOM is released. -/
def State.unguardEnded (s : State) : State :=
  { s.raise .unguarded with
    jc := { s.jc with room := none, state := if s.jc.state = .opened then .unguarded else s.jc.state } }

theorem unguardDone_of_room {s : State} {g n : Nat} (h : s.save = .room g n) : s.unguardDone = s.unguardEnded.perform true := by
  unfold State.unguardDone State.unguardEnded
  cases hk : s.jc.state <;> simp [h, hk]

theorem unguardDone_of_not_room {s : State} (h : ∀ g n, s.save ≠ .room g n) : s.unguardDone = s.unguardEnded := by
  unfold State.unguardDone State.unguardEnded
  cases hv : s.save
  case room g n => exact absurd hv (h g n)
  all_goals cases hk : s.jc.state <;> simp [hv, hk]

theorem State.Lawful.unguardEnded {s : State} (h : s.Lawful) (hwork : s.jc.work = none) : s.unguardEnded.Lawful := by
  by_cases hk : s.jc.state = .opened
  · refine h.toRest (Or.inr ?_) (h.open_of_opened hk) rfl hwork rfl (Or.inl rfl)
    simp [State.unguardEnded, hk]
  · refine (h.clearRoom hwork).congr ?_
    simp [State.unguardEnded, hk, State.lawView, State.ring, State.capacity]

/-- R60, R61, R65: an unguard's update completed. -/
theorem State.Lawful.unguardDone {s : State} (h : s.Lawful) (hwork : s.jc.work = none) : s.unguardDone.Lawful := by
  by_cases hroom : ∃ g n, s.save = .room g n
  · obtain ⟨g, n, hsave⟩ := hroom
    rw [unguardDone_of_room hsave]
    exact (h.unguardEnded hwork).perform true
  · rw [unguardDone_of_not_room fun g n hsave => hroom ⟨g, n, hsave⟩]
    exact h.unguardEnded hwork

/-- R101, R103: what follows an update, for each requester. -/
theorem State.Lawful.requesterDone {s : State} {r : Requester} (h : s.Lawful) (hwork : s.jc.work = none)
    (hserves : s.jc.state.Serves s.jc.room r) : (s.requesterDone r).Lawful := by
  generalize hk : s.jc.state = k at hserves
  cases hserves with
  | reclaim hreclaims => simpa only [State.requesterDone] using h.reclaimDone (hk ▸ hreclaims) hwork
  | unguard => simpa only [State.requesterDone] using h.unguardDone hwork
  | commit hc => simpa only [State.requesterDone, hk] using h.commitComplete hk hc hwork
  | intent hc => simpa only [State.requesterDone, hk] using h.intentDone hk hc hwork
  | completion hc => simpa only [State.requesterDone, hk] using h.rollbackComplete hk hc hwork
  | recovery hc => simpa only [State.requesterDone, hk, hc] using h.recoveryComplete hk hc hwork
  | discard => simpa only [State.requesterDone, hk] using h.discardComplete hk hwork
  | clearing hc => simpa only [State.requesterDone, hk] using h.clearingComplete hk hc hwork

/-- Where an update is asked for the ring is sound. -/
theorem State.Lawful.sound_of_serves {s : State} {r : Requester} (h : s.Lawful) (hserves : s.jc.state.Serves s.jc.room r) :
    s.ring.Sound := by
  have hring := h.ring
  generalize s.jc.state = k at hring hserves
  cases hserves with
  | reclaim hk | unguard hk =>
    cases k
    case committing c | rollingBack c | formatting c =>
      cases hc : c.step <;> simp_all [Ctl.reclaims, Ctl.unguards, CommitCtx.beforeWrites, Ctl.Allows, RingView.Open.sound]
    case opened | unguarded => exact RingView.Open.sound hring
    case discarding => exact hring.1.sound
    all_goals contradiction
  | commit hc | recovery hc | clearing hc | completion hc =>
    simp only [Ctl.Allows, hc] at hring
    exact hring.sound
  | intent hc =>
    simp only [Ctl.Allows, hc] at hring
    exact hring.1.sound
  | discard => exact hring.1.sound

/-- R103: what follows an update that failed, for each requester. -/
theorem State.Lawful.requesterFailed {s : State} {r : Requester} (h : s.Lawful) (hwork : s.jc.work = none)
    (hserves : s.jc.state.Serves s.jc.room r) : (s.requesterFailed r).Lawful := by
  have hsound := h.sound_of_serves hserves
  have hfailed (cause : Cause) : ((s.endLong .failed).enterDamaged cause).Lawful :=
    (h.endLong .failed).enterDamaged cause ((endLong_ring s .failed).symm ▸ hsound)
  cases r
  case intent =>
    generalize hk : s.jc.state = k at hserves
    cases hserves with
    | intent hc => exact h.intentFailed hk hc hwork
  case completion =>
    have hended : ((s.endLong .failed).endReport .damaged).Lawful := (h.endLong .failed).congr rfl
    exact hended.enterDamaged _ ((endLong_ring s .failed).symm ▸ hsound)
  case recovery =>
    have hended : (s.endReport .damaged).Lawful := h.congr rfl
    exact hended.enterDamaged _ hsound
  all_goals exact hfailed _

/-- A transfer of an update that is under way names its requester. -/
theorem serves_of_calls {room : Option RoomOp} {active : Option AnchorWrite} {k : Ctl}
    (h : k.Calls room (active.map AnchorWrite.requester) .update) : ∃ a, active = some a ∧ k.Serves room a.requester := by
  cases h with
  | update hr hs =>
    obtain ⟨a, ha, rfl⟩ := Option.map_eq_some_iff.1 hr
    exact ⟨a, ha, hs⟩

/-- With no transfer under way the law asks nothing of the anchor writer. -/
theorem State.Lawful.withAnchor {s : State} (h : s.Lawful) (hwork : s.jc.work = none) (a : AnchorWriter) :
    State.Lawful { s with anchor := a } :=
  ⟨h.ring, calls_of_none hwork, h.drained, h.reserve, h.admitted, h.headed⟩

theorem State.Lawful.updateDone {s : State} (h : s.Lawful) (hwork : s.jc.work = none)
    (hcalls : s.jc.state.Calls s.jc.room (s.anchor.active.map AnchorWrite.requester) .update) : s.updateDone.Lawful := by
  obtain ⟨a, ha, hserves⟩ := serves_of_calls hcalls
  unfold State.updateDone
  simp only [ha]
  exact (h.withAnchor hwork _).requesterDone hwork hserves

theorem State.Lawful.updateFailed {s : State} (h : s.Lawful)
    (hcalls : s.jc.state.Calls s.jc.room (s.anchor.active.map AnchorWrite.requester) .update) : s.updateFailed.Lawful := by
  obtain ⟨a, ha, hserves⟩ := serves_of_calls hcalls
  unfold State.updateFailed
  simp only [ha]
  exact (h.dropWork.withAnchor rfl _).requesterFailed rfl hserves

/-! ### The transfers of a format -/

/-- R110: while a format writes, the ring is sound and no save is past its free test. -/
theorem State.Lawful.of_formatting {s : State} {c : FormatCtx} (h : s.Lawful) (hk : s.jc.state = .formatting c)
    (hc : c.step ≠ .headWait) : s.ring.Sound ∧ s.save.active = false := by
  have hring := h.ring
  have hadmits := h.admitted
  rw [hk] at hring hadmits
  refine ⟨?_, hadmits.resolve_right hc⟩
  cases hstep : c.step <;> simp only [Ctl.Allows, hstep] at hring
  case apply | clear => exact hring.sound
  all_goals exact hring

theorem State.Lawful.scrubDone {s : State} {c : FormatCtx} {n : Nat} (h : s.Lawful) (hk : s.jc.state = .formatting c)
    (hc : c.step = .scrub n) : (s.scrubDone c n).Lawful := by
  obtain ⟨hring, hinactive⟩ := h.of_formatting hk (by simp [hc])
  unfold State.scrubDone
  split
  · exact lawful_scrubSlot c _ hring hinactive h.headed
  · exact lawful_invalidate c hring hinactive h.headed

theorem State.Lawful.invalidate1 {s : State} {c : FormatCtx} (h : s.Lawful) (hk : s.jc.state = .formatting c)
    (hc : c.step = .invalidate0) : (s.invalidate1 c).Lawful := by
  obtain ⟨hring, hinactive⟩ := h.of_formatting hk (by simp [hc])
  exact lawful_formatTo _ hring hinactive h.headed (fun _ _ => .invalidate1 rfl) (by simp)

theorem State.Lawful.writeSlot0 {s : State} {c : FormatCtx} (h : s.Lawful) (hk : s.jc.state = .formatting c)
    (hc : c.step = .invalidate1) : (s.writeSlot0 c).Lawful := by
  obtain ⟨hring, hinactive⟩ := h.of_formatting hk (by simp [hc])
  exact lawful_formatTo _ hring hinactive h.headed (fun _ _ => .slot0 rfl) (by simp)

/-- R111: the new journal's ring is empty, with epoch 1 open. -/
theorem State.Lawful.slot0Done {s : State} {c : FormatCtx} (h : s.Lawful) (hk : s.jc.state = .formatting c)
    (hc : c.step = .slot0) (hwork : s.jc.work = none) : (s.slot0Done c).Lawful := by
  obtain ⟨-, hinactive⟩ := h.of_formatting hk (by simp [hc])
  exact lawful_of_inactive ⟨rfl, nofun, rfl, rfl, slots_pos s⟩ hwork hinactive h.headed ⟨nofun, nofun⟩

/-! ### Memory's answers on the controller's side -/

/-- R157: the end of a transfer that the state calls for. -/
theorem State.Lawful.workDone {s : State} {o : Owner} {bytes : List Byte} (h : s.Lawful) (hwork : s.jc.work = none)
    (hcalls : s.jc.state.Calls s.jc.room (s.anchor.active.map AnchorWrite.requester) o) (hgenuine : s.BytesGenuine bytes) :
    (s.workDone o bytes).Lawful := by
  cases o
  case update => exact h.updateDone hwork hcalls
  all_goals generalize hk : s.jc.state = k at hcalls
  case replayRead =>
    cases hcalls with
    | replayRead hw hleft => exact h.replayRecord hwork (hk ▸ hw) hleft bytes
  case replayWrite =>
    cases hcalls with
    | replayWrite hw => exact h.replayWritten hwork (hk ▸ hw)
  all_goals cases hcalls
  case anchorRead.anchorRead => simpa only [State.workDone, hk] using h.judgeAnchors hk hwork hgenuine
  case scan.scan c n slot hc => simpa only [State.workDone, hk, hc] using h.scanRecord hk hc hwork hgenuine
  case commitRecord.commitRecord c i hc _ => simpa only [State.workDone, hk, hc] using h.commitRecordDone hk hc hwork
  case scrub.scrub c n hc => simpa only [State.workDone, hk, State.formatWorkDone, hc] using h.scrubDone hk hc
  case invalidate0.invalidate0 c hc => simpa only [State.workDone, hk, State.formatWorkDone, hc] using h.invalidate1 hk hc
  case invalidate1.invalidate1 c hc => simpa only [State.workDone, hk, State.formatWorkDone, hc] using h.writeSlot0 hk hc
  case slot0.slot0 c hc => simpa only [State.workDone, hk, State.formatWorkDone, hc] using h.slot0Done hk hc hwork

/-- R160: an ERROR on a transfer that the state calls for. -/
theorem State.Lawful.workFailed {s : State} {o : Owner} (h : s.Lawful)
    (hcalls : s.jc.state.Calls s.jc.room (s.anchor.active.map AnchorWrite.requester) o) : (s.workFailed o).Lawful := by
  cases o
  case update => exact h.updateFailed hcalls
  case anchorRead | scrub | invalidate0 | invalidate1 | slot0 => exact h
  all_goals generalize hk : s.jc.state = k at hcalls
  case scan =>
    cases hcalls with
    | scan hc => exact h.scanFailed hk hc
  case replayRead =>
    cases hcalls with
    | replayRead hw => exact h.replayFailed (hk ▸ hw)
  case replayWrite =>
    cases hcalls with
    | replayWrite hw => exact h.replayFailed (hk ▸ hw)
  case commitRecord =>
    cases hcalls with
    | commitRecord hc => exact h.commitRecordFailed hk hc

theorem State.Lawful.controllerResponse {s : State} {a : MemAnswer} (h : s.Lawful)
    (hgenuine : ∀ data, a = .okay data → s.readsGenuine data = true) : (s.controllerResponse a).Lawful := by
  unfold State.controllerResponse
  split
  · exact h
  · rename_i w hw
    have hcalls := h.work w.owner (by simp [hw])
    split
    · exact h
    · rename_i t rest htodo
      split
      case h_1 =>
        simp only
        split
        · exact h
        · exact h.dropWork.workFailed hcalls
      case h_2 data =>
        simp only
        split
        · have hbytes := bytesGenuine_of_reads (hgenuine data rfl) hw htodo
          exact h.dropWork.workDone rfl hcalls ⟨hbytes.anchor, hbytes.record⟩
        · exact h.congr (by simp [State.lawView, hw, State.ring, State.capacity])

/-- R155: the answer to the transaction in flight. -/
theorem State.Lawful.memoryResponded {s : State} {a : MemAnswer} (h : s.Lawful)
    (hgenuine : ∀ data, a = .okay data → s.readsGenuine data = true) : (s.memoryResponded a).Lawful := by
  unfold State.memoryResponded
  split
  · exact h
  · have hfree : State.Lawful { s with port := { s.port with inFlight := none } } := h.congr rfl
    have hbase := hfree.raiseIf (a == .error) .memoryError
    simp only
    split
    · exact hbase.requestResponse a
    · refine hbase.controllerResponse ?_
      rintro data rfl
      exact hgenuine data rfl

end Sys2Proof.Machine
end

section
/-! SUPPORT. The law of the ring kept by every command. -/

namespace Sys2Proof.Machine

/-! ### The events of the lines, time, halt and the front port -/

theorem State.Lawful.holdExpired {s : State} (h : s.Lawful) : s.holdExpired.Lawful := by
  unfold State.holdExpired
  split
  · exact (h.respond _ _).congr rfl
  · exact h

theorem State.Lawful.autoExpired {s : State} (h : s.Lawful) : s.autoExpired.Lawful := by
  unfold State.autoExpired
  split
  · exact h
  · exact h
  · split
    · exact h.congr rfl
    · split
      · exact h.takeCommit (atRest_of_canCommit ‹_›) false
      · exact h.congr rfl

theorem State.Lawful.retireEnded {s : State} (h : s.Lawful) : s.retireEnded.Lawful := by
  unfold State.retireEnded
  split
  · exact h.congr rfl
  · exact h
  · exact h

theorem State.Lawful.clearEnded {s : State} (h : s.Lawful) : s.clearEnded.Lawful := by
  unfold State.clearEnded
  split
  · exact h.congr rfl
  · exact h
  · exact h

theorem State.Lawful.ckptRequest {s : State} (h : s.Lawful) : s.ckptRequest.Lawful := by
  unfold State.ckptRequest
  split
  · exact h.takeCommit (atRest_of_canCommit ‹_›) false
  · split <;> exact h.congr rfl

theorem State.Lawful.fallbackRequest {s : State} (h : s.Lawful) : s.fallbackRequest.Lawful := by
  unfold State.fallbackRequest
  split
  · exact h.takeRollback (opened_of_canFallback ‹_›) _ _
  · split <;> exact h.congr rfl

theorem State.Lawful.drawn {s : State} (h : s.Lawful) : s.drawn.Lawful := h.congr rfl

theorem State.Lawful.sampleLines {s : State} (h : s.Lawful) (ckpt fallback : Bool) : (s.sampleLines ckpt fallback).Lawful := by
  have hsampled : State.Lawful { s with lines := { s.lines with
      ckpt := s.lines.ckpt.sample s.link.policies.qualify ckpt
      fallback := s.lines.fallback.sample s.link.policies.qualify fallback } } := h.congr rfl
  unfold State.sampleLines
  simp only
  split
  · exact hsampled
  · exact hsampled.ckptRequest
  · exact hsampled.fallbackRequest
  · split
    · exact hsampled.drawn.ckptRequest.fallbackRequest
    · exact hsampled.drawn.fallbackRequest.ckptRequest

theorem State.Lawful.qualify {s : State} (h : s.Lawful) (l : LineRun) : (s.qualify l).Lawful := by
  unfold State.qualify
  simp only
  split
  all_goals
    split
    · exact h.sampleLines _ _
    · exact h

/-! ### The commands of the long operations -/

theorem State.Lawful.accept {s : State} (h : s.Lawful) (op : LongOp) : (s.accept op).Lawful := h.congr rfl

/-- A long operation's command keeps the law when its taking does where it is accepted. -/
theorem State.Lawful.longCommand {s : State} (h : s.Lawful) (r : Result) (op : LongOp) {take : State → State}
    (htake : r = .accepted → (take (s.accept op)).Lawful) : (s.longCommand r op take).Lawful := by
  unfold State.longCommand
  split
  · exact (htake ‹_›).finish _
  · exact h.congr rfl

/-- R77, R106: a command that is neither NOT_OPEN nor BUSY finds the controller at rest. -/
theorem atRest_of_free {s : State} (hopen : ¬s.notOpen = true) (hfree : ¬s.longBusy = true) : s.AtRest := by
  unfold State.notOpen State.longBusy State.mark at *
  unfold State.AtRest
  cases hk : s.jc.state <;> simp_all [State.name, Ctl.name]

theorem State.Lawful.runCommit {s : State} (h : s.Lawful) : s.runCommit.Lawful := by
  refine h.longCommand _ _ fun hr => (h.accept _).takeCommit ?_ true
  unfold State.commitResult at hr
  split_ifs at hr with hopen hfree
  exact atRest_of_free (s := s) hopen hfree

theorem State.Lawful.runRollback {s : State} (h : s.Lawful) (n : Word) : (s.runRollback n).Lawful := by
  refine h.longCommand _ _ fun hr => (h.accept _).takeRollback ?_ n .command
  unfold State.rollbackResult at hr
  split_ifs at hr with hopen hfree hname
  exact (atRest_of_free (s := s) hopen hfree).resolve_right fun hk => hname (congrArg Ctl.name hk)

/-- R106, R107: a discard taken: its context says what its removal frees. -/
theorem State.Lawful.takeDiscard {s : State} (h : s.Lawful) (hs : s.AtRest) (n : Word) : (s.takeDiscard n).Lawful := by
  have htaken : State.Lawful { s with jc := { s.jc with state := .discarding (s.discardContext n), timer := s.jc.timer.pause } } :=
    ⟨⟨h.open_of_atRest hs, rfl⟩, h.calls_of_atRest hs rfl, nofun, h.reserve, trivial, h.headed⟩
  unfold State.takeDiscard
  simp only
  split
  · exact htaken.askDiscard rfl (Option.isNone_iff_eq_none.1 ‹_›)
  · exact htaken

theorem State.Lawful.runDiscard {s : State} (h : s.Lawful) (n : Word) : (s.runDiscard n).Lawful := by
  refine h.longCommand _ _ fun hr => (h.accept _).takeDiscard ?_ n
  unfold State.discardResult at hr
  split_ifs at hr with hopen hfree
  exact atRest_of_free (s := s) hopen hfree

/-- R109: where a FORMAT is accepted the ring is sound, and no update runs but that of an unguard. -/
theorem State.Lawful.of_format {s : State} (h : s.Lawful) (hfree : ¬s.longBusy = true) {k : Ctl} (hk : k.unguards = true) :
    s.ring.Sound ∧ ∀ o ∈ s.jc.work.map Work.owner, k.Calls s.jc.room (s.anchor.active.map AnchorWrite.requester) o := by
  have hring := h.ring
  by_cases hopen : s.notOpen = true
  · have hname : s.jc.state = .unformatted ∨ ∃ cause, s.jc.state = .damaged cause := by
      unfold State.notOpen at hopen
      cases hctl : s.jc.state <;> simp_all [State.name, Ctl.name]
    have hwork : s.jc.work = none := h.work_none (by rcases hname with hctl | ⟨_, hctl⟩ <;> rw [hctl] <;> rfl)
    refine ⟨?_, by simp [hwork]⟩
    rcases hname with hctl | ⟨_, hctl⟩ <;> rwa [hctl] at hring
  · have hrest := atRest_of_free hopen hfree
    exact ⟨(h.open_of_atRest hrest).sound, h.calls_of_atRest hrest hk⟩

theorem State.Lawful.takeFormat {s : State} (h : s.Lawful) (hfree : ¬s.longBusy = true) : s.takeFormat.Lawful := by
  obtain ⟨hsound, hcalls⟩ := h.of_format hfree (k := s.takeFormat.jc.state) rfl
  refine ⟨hsound, hcalls, nofun, fun hactive => h.reserve ?_, Or.inr rfl, fun hsave => h.headed ?_⟩
  all_goals cases hv : s.save <;> simp_all [State.takeFormat, Save.active]

theorem State.Lawful.runFormat {s : State} (h : s.Lawful) : s.runFormat.Lawful := by
  refine h.longCommand _ _ fun hr => (h.accept _).takeFormat (s := s.accept .format) ?_
  unfold State.formatResult at hr
  split_ifs at hr with hfree
  exact hfree

theorem State.Lawful.runClearDamage {s : State} (h : s.Lawful) : s.runClearDamage.Lawful := by
  refine h.longCommand _ _ fun hr => ?_
  obtain ⟨cause, hk⟩ : ∃ cause, s.jc.state = .damaged cause := by
    unfold State.clearDamageResult at hr
    cases hctl : s.jc.state <;> simp_all [State.name, Ctl.name]
  have hring := h.ring
  rw [hk] at hring
  exact ⟨hring, calls_of_none (h.work_none (by simp [hk, Ctl.quiet])), nofun, h.reserve, Or.inr rfl, h.headed⟩

/-! ### The other link commands -/

theorem State.Lawful.linkCommand {s : State} {f : State → State} (h : s.Lawful) (hf : (f s).Lawful) : (s.linkCommand f).Lawful := by
  unfold State.linkCommand
  split
  · exact hf
  · exact h

theorem State.Lawful.runGetOpenEpoch {s : State} (h : s.Lawful) : s.runGetOpenEpoch.Lawful := by
  unfold State.runGetOpenEpoch
  split <;> exact h.congr rfl

theorem State.Lawful.runGetDirectoryEntry {s : State} (h : s.Lawful) (k : Byte) : (s.runGetDirectoryEntry k).Lawful := by
  unfold State.runGetDirectoryEntry
  split_ifs
  case neg => split <;> exact h.congr rfl
  all_goals exact h.congr rfl

theorem State.Lawful.runGetWindow {s : State} (h : s.Lawful) (table slot : Byte) : (s.runGetWindow table slot).Lawful := by
  unfold State.runGetWindow
  split_ifs <;> exact h.congr rfl

theorem State.Lawful.runSetEventMask {s : State} (h : s.Lawful) (v : Half) : (s.runSetEventMask v).Lawful := by
  unfold State.runSetEventMask
  split_ifs <;> exact h.congr rfl

theorem State.Lawful.runSetPolicy {s : State} (h : s.Lawful) (selector : Byte) (v : Half) : (s.runSetPolicy selector v).Lawful := by
  unfold State.runSetPolicy
  split <;> exact h.congr rfl

theorem State.Lawful.runStageWindow {s : State} (h : s.Lawful) (slot : Byte) (base length : Word) (mode : Byte) :
    (s.runStageWindow slot base length mode).Lawful := by
  unfold State.runStageWindow
  split
  · exact h.congr rfl
  · split <;> exact h.congr rfl

theorem State.Lawful.runClearWindow {s : State} (h : s.Lawful) (slot : Byte) : (s.runClearWindow slot).Lawful := by
  unfold State.runClearWindow
  split_ifs <;> exact h.congr rfl

/-- R178: the command that a frame spells keeps the law. -/
theorem State.Lawful.runFrame {s : State} (h : s.Lawful) (i : Instr) : (s.runFrame i).Lawful := by
  cases i with
  | commit => exact h.runCommit
  | rollback target => exact h.runRollback target
  | discard upTo => exact h.runDiscard upTo
  | format => exact h.runFormat
  | clearDamage => exact h.runClearDamage
  | getOpenEpoch => exact h.runGetOpenEpoch
  | getDirectoryEntry k => exact h.runGetDirectoryEntry k
  | getWindow table slot => exact h.runGetWindow table slot
  | setEventMask value => exact h.runSetEventMask value
  | setPolicy selector value => exact h.runSetPolicy selector value
  | stageWindow slot base length mode => exact h.runStageWindow slot base length mode
  | clearWindow slot => exact h.runClearWindow slot
  | _ => exact h.congr rfl

theorem State.Lawful.afterByte {s : State} (h : s.Lawful) (code : Byte) (got : List Byte) : (s.afterByte code got).Lawful := by
  unfold State.afterByte
  split
  · exact h.runFrame _
  · split
    · exact h.runFrame _
    · exact h.congr rfl

theorem State.Lawful.endByte {s : State} (h : s.Lawful) (mosi : Byte) : (s.endByte mosi).Lawful := by
  unfold State.endByte
  split
  case h_2 => exact h.afterByte _ _
  case h_3 => exact h.afterByte _ _
  all_goals exact h.congr rfl

theorem State.Lawful.startFrame {s : State} (h : s.Lawful) : s.startFrame.Lawful := by
  unfold State.startFrame
  split_ifs <;> exact h.congr rfl

theorem State.Lawful.endFrame {s : State} (h : s.Lawful) : s.endFrame.Lawful := by
  unfold State.endFrame
  split_ifs <;> exact h.congr rfl

/-! ### Every step -/

/-- R29: a reset leaves a lawful state. -/
theorem lawful_afterReset (straps : Straps) (held pfw cs : Bool) (s : State) : (s.afterReset straps held pfw cs).Lawful :=
  lawful_of_inactive ⟨Nat.zero_le _, rfl, nofun⟩ rfl rfl (absurd rfl) ⟨nofun, nofun⟩

/-- Log 18: a command's memory answer, if it is one, brings what a 2410 wrote. -/
def State.GenuineCommand (i : Instr) (s : State) : Prop :=
  ∀ data, i = .memoryResponse (.okay data) → s.readsGenuine data = true

/-- An outcome is a next state, and it obeys the law. -/
def AnswersLawful (o : Host.Outcome State Fault Refusal) : Prop := ∃ t : State, o = .next t ∧ t.Lawful

theorem State.Lawful.exec {s : State} (h : s.Lawful) (i : Instr) (hgenuine : s.GenuineCommand i) :
    AnswersLawful (Machine.exec i s) := by
  cases i with
  | powerUp straps prst pfw cs raised =>
    exact ⟨_, rfl, State.Lawful.event ((lawful_afterReset straps prst pfw cs s).congr rfl) id⟩
  | prstAssert straps raised => exact ⟨_, rfl, (lawful_afterReset straps true s.lines.halt s.link.csLow s).congr rfl⟩
  | prstWithdraw => exact ⟨_, rfl, State.Lawful.event (h.congr rfl) id⟩
  | requestAccept r => exact ⟨_, rfl, State.Lawful.event (h.congr rfl) id⟩
  | holdExpiry => exact ⟨_, rfl, h.event State.Lawful.holdExpired⟩
  | memoryResponse a =>
    exact ⟨_, rfl, h.event fun h => h.memoryResponded fun data ha => hgenuine data (congrArg Instr.memoryResponse ha)⟩
  | commit => exact ⟨_, rfl, h.linkCommand h.runCommit⟩
  | autoCommitExpiry => exact ⟨_, rfl, h.event State.Lawful.autoExpired⟩
  | lineQualify l => exact ⟨_, rfl, h.event fun h => h.qualify l⟩
  | rollback target => exact ⟨_, rfl, h.linkCommand (h.runRollback target)⟩
  | discard upTo => exact ⟨_, rfl, h.linkCommand (h.runDiscard upTo)⟩
  | format => exact ⟨_, rfl, h.linkCommand h.runFormat⟩
  | clearDamage => exact ⟨_, rfl, h.linkCommand h.runClearDamage⟩
  | retireSweepEnd => exact ⟨_, rfl, h.event State.Lawful.retireEnded⟩
  | fullClearEnd => exact ⟨_, rfl, h.event State.Lawful.clearEnded⟩
  | haltBegin =>
    simp only [Machine.exec, execHaltBegin]
    split
    · exact ⟨_, rfl, h.congr rfl⟩
    · exact ⟨_, rfl, h.event fun h => h.congr rfl⟩
  | haltEnd =>
    simp only [Machine.exec, execHaltEnd]
    split
    · exact ⟨_, rfl, h.congr rfl⟩
    · exact ⟨_, rfl, h.event fun h => h.congr rfl⟩
  | stampIncrement =>
    refine ⟨_, rfl, ?_⟩
    unfold State.live
    split
    · exact h
    · exact h.congr rfl
  | frameStart => exact ⟨_, rfl, h.startFrame⟩
  | frameEnd => exact ⟨_, rfl, h.endFrame⟩
  | lineSamplingEvent ckpt fallback => exact ⟨_, rfl, h.event fun h => h.sampleLines ckpt fallback⟩
  | bytePositionEnd mosi =>
    refine ⟨_, rfl, ?_⟩
    unfold State.live
    split
    · exact h
    · exact h.endByte mosi
  | getStatus => exact ⟨_, rfl, h.linkCommand (h.runFrame .getStatus)⟩
  | getIdentity => exact ⟨_, rfl, h.linkCommand (h.runFrame .getIdentity)⟩
  | readEvents => exact ⟨_, rfl, h.linkCommand (h.runFrame .readEvents)⟩
  | setEventMask value => exact ⟨_, rfl, h.linkCommand (h.runFrame (.setEventMask value))⟩
  | getOpenEpoch => exact ⟨_, rfl, h.linkCommand (h.runFrame .getOpenEpoch)⟩
  | getDirectoryEntry k => exact ⟨_, rfl, h.linkCommand (h.runFrame (.getDirectoryEntry k))⟩
  | getReport => exact ⟨_, rfl, h.linkCommand (h.runFrame .getReport)⟩
  | setPolicy selector value => exact ⟨_, rfl, h.linkCommand (h.runFrame (.setPolicy selector value))⟩
  | getPolicy => exact ⟨_, rfl, h.linkCommand (h.runFrame .getPolicy)⟩
  | stageWindow slot base length mode => exact ⟨_, rfl, h.linkCommand (h.runFrame (.stageWindow slot base length mode))⟩
  | clearWindow slot => exact ⟨_, rfl, h.linkCommand (h.runFrame (.clearWindow slot))⟩
  | getWindow table slot => exact ⟨_, rfl, h.linkCommand (h.runFrame (.getWindow table slot))⟩
  | setStamp value => exact ⟨_, rfl, h.linkCommand (h.runFrame (.setStamp value))⟩
  | getStamp => exact ⟨_, rfl, h.linkCommand (h.runFrame .getStamp)⟩
  | linkReset => exact ⟨_, rfl, h.linkCommand (h.runFrame .linkReset)⟩
  | unknownCommand code => exact ⟨_, rfl, h.linkCommand (h.runFrame (.unknownCommand code))⟩

theorem AnswersLawful.lawful {t : State} (h : AnswersLawful (.next t)) : t.Lawful := by
  obtain ⟨u, hu, hlaw⟩ := h
  cases hu
  exact hlaw

/-! ### The law in plain words -/

theorem allows_of_ringLawful {s : State} (h : s.ringLawful = true) : s.jc.state.Allows s.ring := by
  simp only [State.ringLawful, Bool.and_eq_true, and_assoc] at h
  obtain ⟨hcounted, hbounded, hordered, hplaced, -⟩ := h
  exact (allows_iff s).1 ⟨hcounted, hbounded, hordered, hplaced⟩

/-- R52, R104: in every state occupancy is at most capacity and the entries rise. -/
theorem fits_and_rises_of_allows {k : Ctl} {r : RingView} (h : k.Allows r) :
    r.used ≤ r.slots ∧ directoryRising r.entries = true := by
  have hsound (h : r.Sound) := And.intro h.fits h.rising
  have hopen (h : r.Open) := hsound h.sound
  have hclosed (h : r.Closed) := And.intro h.fits h.rising
  cases k
  case recovering c =>
    cases hc : c.step <;> simp only [Ctl.Allows, hc] at h
    exacts [hsound h.1.toSound, hsound h.1.toSound, hclosed h.1, hopen h]
  case committing c =>
    cases hc : c.step <;> simp only [Ctl.Allows, hc] at h
    exacts [hopen h, hopen h.1, hclosed h.1, hopen h]
  case rollingBack c =>
    cases hc : c.step <;> simp only [Ctl.Allows, hc] at h
    exacts [hopen h.1, hopen h.1, hopen h.1, hclosed h.1, hopen h]
  case formatting c =>
    cases hc : c.step <;> simp only [Ctl.Allows, hc] at h
    exacts [hsound h, hsound h, hsound h, hsound h, hsound h, hopen h, hopen h]
  case clearing c =>
    cases hc : c.step <;> simp only [Ctl.Allows, hc] at h
    exacts [hsound h, hclosed h.1, hopen h, hopen h]
  case opened | unguarded => exact hopen h
  case discarding => exact hopen h.1
  case anchorRead | unformatted | damaged => exact hsound h

/-- R52, R104: in OPEN, UNGUARDED and DISCARDING the ring is open. -/
theorem open_of_allows {k : Ctl} {r : RingView} (h : k.Allows r)
    (hk : k.name = .opened ∨ k.name = .unguarded ∨ k.name = .discarding) : r.Open := by
  cases k
  case opened | unguarded => exact h
  case discarding => exact h.1
  all_goals simp [Ctl.name] at hk

/-- R55: the states in which a slot is free. -/
theorem free_of_allows {k : Ctl} {r : RingView} (h : k.Allows r) (hk : k.name = .opened ∨ k.name = .unguarded ∨
    k.name = .committing ∨ k.name = .rollingBack ∨ k.name = .discarding) : r.used < r.slots := by
  cases k
  case committing c =>
    cases hc : c.step <;> simp only [Ctl.Allows, hc] at h
    exacts [h.free, h.1.free, h.1.free, h.free]
  case rollingBack c =>
    cases hc : c.step <;> simp only [Ctl.Allows, hc] at h
    exacts [h.1.free, h.1.free, h.1.free, h.1.free, h.free]
  case opened | unguarded => exact h.free
  case discarding => exact h.1.free
  all_goals simp [Ctl.name] at hk

/-- Settles O56: `Lawful` is the law with what the port's discipline adds to it, and every command keeps it (`Lawful.exec`); in
plain words it is what `Ctl.Allows` says of the ring. -/
theorem stepKeepsTheRing : Obligations.StepKeepsTheRing := by
  refine ⟨fun s t hport hlaw hgenuine hstep => ?_, fun s hlaw => ?_⟩
  · have h : s.Lawful := (lawful_iff s).2 ⟨hlaw, headed_of_portDisciplined hport⟩
    refine ((lawful_iff t).1 ?_).1
    unfold step at hstep
    split at hstep
    · cases hstep
      exact h
    · rename_i i rest hpending
      have hrest : State.Lawful { s with pending := rest } := h.congr rfl
      have hanswers := hrest.exec i fun data hi => hgenuine data rest (hi ▸ hpending)
      rw [hstep] at hanswers
      exact hanswers.lawful
  · have hring := allows_of_ringLawful hlaw
    obtain ⟨hfits, hrising⟩ := fits_and_rises_of_allows hring
    refine ⟨hfits, fun hname => ?_, ((directoryRising_iff _).1 hrising).1, fun e he hname => ?_⟩
    · have hfree : s.ring.used < s.ring.slots := free_of_allows hring hname
      show 1 ≤ s.ring.slots - s.ring.used
      omega
    · have hopen := open_of_allows hring hname
      have hbelow := hopen.below
      have hcounted := hopen.counted
      rw [ring_number, openNumber_of_epoch he] at hbelow
      rw [ring_preImages, State.openPreImages, he] at hcounted
      exact ⟨hbelow, hcounted⟩

end Sys2Proof.Machine
end

section
/-! SUPPORT. Where the ring lies, and the transactions of a record (R43 to R45). -/

namespace Sys2Proof.Machine

/-! ### The region and its slots (R43, R44) -/

theorem ringCapacity_table (js : BitVec 3) :
    ringCapacity js = [661, 1344, 2709, 5440, 10901, 21824, 43669, 87360].getD js.toNat 0 := by
  revert js
  decide

/-- R44: a slot of the ring lies behind the anchor slots and ends inside the region. -/
theorem slotAddr_bounds {base s : Nat} {js : BitVec 3} (h : s < ringCapacity js) :
    base + 1024 ≤ slotAddr base s ∧ slotAddr base s + 48 ≤ base + regionSize js := by
  have hslots : (s + 1) * 48 ≤ regionSize js - 1024 := (Nat.le_div_iff_mul_le (by decide)).1 h
  unfold slotAddr
  omega

/-- R43: the region ends inside the memory. -/
theorem region_bounds (jb : BitVec 4) (js : BitVec 3) : regionBase jb + regionSize js ≤ 67108864 := by
  have hbase : jb.toNat ≤ 15 := Nat.le_of_lt_succ jb.isLt
  have hsize : 2 ^ js.toNat ≤ 2 ^ 7 := Nat.pow_le_pow_right (by decide) (Nat.le_of_lt_succ js.isLt)
  unfold regionBase regionSize
  omega

/-! ### The transactions of a record (R45) -/

theorem recordWrites_even {base s : Nat} (h : s % 2 = 0) (bytes : List Byte) : recordWrites base s bytes =
    [.granuleWrite (byteAddr (slotAddr base s)) (fieldAt 0 32 bytes),
      .wordWrite (byteAddr (slotAddr base s + 32)) (fieldAt 32 4 bytes) 0xF,
      .wordWrite (byteAddr (slotAddr base s + 36)) (fieldAt 36 4 bytes) 0xF,
      .wordWrite (byteAddr (slotAddr base s + 40)) (fieldAt 40 4 bytes) 0xF,
      .wordWrite (byteAddr (slotAddr base s + 44)) (fieldAt 44 4 bytes) 0xF] := if_pos h

theorem recordWrites_odd {base s : Nat} (h : s % 2 = 1) (bytes : List Byte) : recordWrites base s bytes =
    [.wordWrite (byteAddr (slotAddr base s + 0)) (fieldAt 0 4 bytes) 0xF,
      .wordWrite (byteAddr (slotAddr base s + 4)) (fieldAt 4 4 bytes) 0xF,
      .wordWrite (byteAddr (slotAddr base s + 8)) (fieldAt 8 4 bytes) 0xF,
      .wordWrite (byteAddr (slotAddr base s + 12)) (fieldAt 12 4 bytes) 0xF,
      .granuleWrite (byteAddr (slotAddr base s + 16)) (fieldAt 16 32 bytes)] := if_neg (by omega)

theorem recordReads_even {base s : Nat} (h : s % 2 = 0) : recordReads base s =
    [.granuleRead (byteAddr (slotAddr base s)), .wordRead (byteAddr (slotAddr base s + 32)),
      .wordRead (byteAddr (slotAddr base s + 36)), .wordRead (byteAddr (slotAddr base s + 40)),
      .wordRead (byteAddr (slotAddr base s + 44))] := if_pos h

theorem recordReads_odd {base s : Nat} (h : s % 2 = 1) : recordReads base s =
    [.wordRead (byteAddr (slotAddr base s + 0)), .wordRead (byteAddr (slotAddr base s + 4)),
      .wordRead (byteAddr (slotAddr base s + 8)), .wordRead (byteAddr (slotAddr base s + 12)),
      .granuleRead (byteAddr (slotAddr base s + 16))] := if_neg (by omega)

/-- Two fields one behind the other are one field. -/
theorem fieldAt_append_next (o n m : Nat) (bytes : List Byte) :
    fieldAt o n bytes ++ fieldAt (o + n) m bytes = fieldAt o (n + m) bytes := by
  simp [fieldAt, List.take_add]

theorem fields_of_even {bytes : List Byte} (h : bytes.length = 48) : fieldAt 0 32 bytes ++ (fieldAt 32 4 bytes ++
    (fieldAt 36 4 bytes ++ (fieldAt 40 4 bytes ++ fieldAt 44 4 bytes))) = bytes :=
  calc fieldAt 0 32 bytes ++ (fieldAt 32 4 bytes ++ (fieldAt 36 4 bytes ++ (fieldAt 40 4 bytes ++ fieldAt 44 4 bytes)))
    _ = fieldAt 0 48 bytes := by
      rw [fieldAt_append_next 40 4 4, fieldAt_append_next 36 4 8, fieldAt_append_next 32 4 12, fieldAt_append_next 0 32 16]
    _ = bytes := fieldAt_whole 48 bytes h

theorem fields_of_odd {bytes : List Byte} (h : bytes.length = 48) : fieldAt 0 4 bytes ++ (fieldAt 4 4 bytes ++
    (fieldAt 8 4 bytes ++ (fieldAt 12 4 bytes ++ fieldAt 16 32 bytes))) = bytes :=
  calc fieldAt 0 4 bytes ++ (fieldAt 4 4 bytes ++ (fieldAt 8 4 bytes ++ (fieldAt 12 4 bytes ++ fieldAt 16 32 bytes)))
    _ = fieldAt 0 48 bytes := by
      rw [fieldAt_append_next 12 4 32, fieldAt_append_next 8 4 36, fieldAt_append_next 4 4 40, fieldAt_append_next 0 4 44]
    _ = bytes := fieldAt_whole 48 bytes h

/-- An address that is a multiple of a power of two keeps its value when the bits below are cleared. -/
theorem byteAddr_and_mask {p n : Nat} {mask : Addr} (hmask : ∀ i < 26, mask.getLsbD i = decide (p ≤ i)) (hn : 2 ^ p ∣ n) :
    byteAddr n &&& mask = byteAddr n := by
  obtain ⟨k, rfl⟩ := hn
  apply BitVec.eq_of_getLsbD_eq
  intro i hi
  rw [BitVec.getLsbD_and, hmask i hi, byteAddr, BitVec.getLsbD_ofNat, Nat.testBit_two_pow_mul]
  by_cases hp : p ≤ i <;> simp [hp]

theorem byteAddr_word {n : Nat} (h : n % 4 = 0) : byteAddr n &&& 0x3FFFFFC#26 = byteAddr n :=
  byteAddr_and_mask (p := 2) (by decide) (Nat.dvd_of_mod_eq_zero h)

theorem byteAddr_granule {n : Nat} (h : n % 32 = 0) : byteAddr n &&& 0x3FFFFE0#26 = byteAddr n :=
  byteAddr_and_mask (p := 5) (by decide) (Nat.dvd_of_mod_eq_zero h)

/-- R44: an even slot is aligned to a granule, an odd one 16 bytes off. -/
theorem slotAddr_mod (jb : BitVec 4) (s : Nat) : slotAddr (regionBase jb) s % 32 = s % 2 * 16 := by
  unfold slotAddr regionBase
  omega

/-- R45: a record's transactions are aligned and set every lane. -/
theorem record_aligned (jb : BitVec 4) (s : Nat) (bytes : List Byte) :
    ∀ r ∈ recordWrites (regionBase jb) s bytes ++ recordReads (regionBase jb) s, r.aligned = r ∧ r.emptyMask = false := by
  have hmod := slotAddr_mod jb s
  have hword (o : Nat) (ho : o % 4 = 0) :
      byteAddr (slotAddr (regionBase jb) s + o) &&& 0x3FFFFFC#26 = byteAddr (slotAddr (regionBase jb) s + o) :=
    byteAddr_word (by omega)
  rcases Nat.mod_two_eq_zero_or_one s with h | h
  · have hgranule := byteAddr_granule (n := slotAddr (regionBase jb) s) (by omega)
    rw [recordWrites_even h, recordReads_even h]
    simp [Request.aligned, Request.emptyMask, hword, hgranule]
  · have hfirst := byteAddr_word (n := slotAddr (regionBase jb) s) (by omega)
    have hgranule := byteAddr_granule (n := slotAddr (regionBase jb) s + 16) (by omega)
    rw [recordWrites_odd h, recordReads_odd h]
    simp [Request.aligned, Request.emptyMask, hfirst, hword, hgranule]

/-- Settles O54: the capacity is a table of eight rows; the slots' bounds are `slotAddr_bounds` and `region_bounds`; a record's
transactions are the lists of `recordWrites_even` and `recordWrites_odd`, whose fields join to the 48 bytes. -/
theorem theRingLiesInTheRegion : Obligations.TheRingLiesInTheRegion := by
  refine ⟨ringCapacity_table, fun jb js s hs => ?_, fun jb s bytes => ⟨fun h => ?_, fun h => ?_⟩, fun jb s bytes hlen => ?_⟩
  · obtain ⟨hlow, hhigh⟩ := slotAddr_bounds (base := regionBase jb) hs
    exact ⟨hlow, hhigh, region_bounds jb js⟩
  · exact ⟨recordWrites_even h bytes, recordReads_even h⟩
  · exact ⟨recordWrites_odd h bytes, recordReads_odd h⟩
  · refine ⟨?_, ?_, record_aligned jb s bytes⟩
    · rcases Nat.mod_two_eq_zero_or_one s with h | h
      · rw [recordWrites_even h]
        simpa using fields_of_even hlen
      · rw [recordWrites_odd h]
        simpa using fields_of_odd hlen
    · rcases Nat.mod_two_eq_zero_or_one s with h | h
      · rw [recordWrites_even h]; rfl
      · rw [recordWrites_odd h]; rfl

end Sys2Proof.Machine
end

section
/-! SUPPORT. Records and anchors read back (R49, R97, R98, R187 to R189), and the commands that frames spell (R177, R190). -/

namespace Sys2Proof.Machine

/-! ### CRC-32 (R189) -/

/-- The generator 0x04C11DB7 read from its least significant bit. -/
theorem reverse_generator : (0x04C11DB7 : Word).reverse = 0xEDB88320 := by decide +kernel

/-- R189: a byte taken up is its eight bits taken up, least significant first. -/
theorem crcByte_eq_foldl (c : Word) (b : Byte) : crcByte c b = (List.range 8).foldl
    (fun (c : Word) _ => if c.getLsbD 0 then (c >>> 1) ^^^ (0x04C11DB7 : Word).reverse else c >>> 1) (c ^^^ b.setWidth 32) := by
  rw [reverse_generator]
  rfl

theorem crc32_eq_foldl (bytes : List Byte) : crc32 bytes = bytes.foldl (fun (c : Word) (b : Byte) =>
    (List.range 8).foldl (fun (c : Word) _ => if c.getLsbD 0 then (c >>> 1) ^^^ (0x04C11DB7 : Word).reverse else c >>> 1)
      (c ^^^ b.setWidth 32)) 0xFFFFFFFF ^^^ 0xFFFFFFFF := by
  have hbyte : crcByte = fun (c : Word) (b : Byte) => (List.range 8).foldl
      (fun (c : Word) _ => if c.getLsbD 0 then (c >>> 1) ^^^ (0x04C11DB7 : Word).reverse else c >>> 1) (c ^^^ b.setWidth 32) :=
    funext fun c => funext fun b => crcByte_eq_foldl c b
  rw [crc32, crcFrom_eq_foldl, hbyte]

/-! ### Fields of bytes laid out one behind the other -/

/-- The field where a segment stands is the segment. -/
theorem fieldAt_segment {segs : List (List Byte)} (i : Nat) {seg : List Byte} {o n : Nat} (hseg : segs[i]? = some seg)
    (ho : ((segs.take i).map List.length).sum = o) (hn : seg.length = n) : fieldAt o n segs.flatten = seg := by
  induction segs generalizing i o with
  | nil => contradiction
  | cons s segs ih =>
    cases i with
    | zero =>
      cases hseg
      subst ho
      rw [List.flatten_cons]
      exact (fieldAt_append_left 0 n seg segs.flatten (by simp [hn])).trans (fieldAt_whole n seg hn)
    | succ i =>
      have ho' : s.length + ((segs.take i).map List.length).sum = o := by simpa using ho
      rw [List.flatten_cons, fieldAt_append_right o n s _ (by omega)]
      exact ih i hseg (by omega)

/-- A byte is the field of length one where it stands. -/
theorem getD_eq_of_fieldAt {o : Nat} {b : Byte} {bytes : List Byte} (h : fieldAt o 1 bytes = [b]) : bytes.getD o 0 = b := by
  have hhead := congrArg (fun l => l.getD 0 0) h
  simpa [fieldAt, List.getD_eq_getElem?_getD, List.getElem?_take] using hhead

/-- A field of a field. -/
theorem fieldAt_fieldAt {o n p m : Nat} (h : o + n ≤ m) (bytes : List Byte) :
    fieldAt o n (fieldAt p m bytes) = fieldAt (p + o) n bytes := by
  simp only [fieldAt, List.drop_take, List.drop_drop, List.take_take]
  congr 1
  omega

/-- Values that are encoded at the same length, one behind the other, are read back one by one. -/
theorem map_fieldAt_flatMap {α : Type} {f : α → List Byte} {g : List Byte → α} {k : Nat} {xs : List α} (rest : List Byte)
    (hlen : ∀ x ∈ xs, (f x).length = k) (hback : ∀ x ∈ xs, g (f x) = x) :
    ((List.range xs.length).map fun i => g (fieldAt (k * i) k (xs.flatMap f ++ rest))) = xs := by
  induction xs with
  | nil => rfl
  | cons x xs ih =>
    have hx := hlen x List.mem_cons_self
    rw [List.length_cons, List.range_succ_eq_map, List.map_cons, List.map_map]
    congr 1
    · rw [Nat.mul_zero, List.flatMap_cons, List.append_assoc, fieldAt_append_left 0 k _ _ (by simp [hx]), fieldAt_whole k _ hx]
      exact hback x List.mem_cons_self
    · refine (List.map_congr_left fun i _ => ?_).trans
        (ih (fun y hy => hlen y (List.mem_cons_of_mem _ hy)) fun y hy => hback y (List.mem_cons_of_mem _ hy))
      have hnext : k * (i + 1) - (f x).length = k * i := by rw [hx, Nat.mul_succ, Nat.add_sub_cancel]
      show g (fieldAt (k * (i + 1)) k ((x :: xs).flatMap f ++ rest)) = _
      rw [List.flatMap_cons, List.append_assoc, fieldAt_append_right _ _ _ _ (by rw [hx]; exact Nat.le_mul_of_pos_right k i.succ_pos),
        hnext]

/-! ### Records (R49, R187) -/

theorem flagsByte_bits (b c : Bool) : (flagsByte b c).getLsbD 0 = b ∧ (flagsByte b c).getLsbD 1 = c := by
  revert b c
  decide

/-- What R187 lets a record's body hold. -/
def RecordBody.Fits : RecordBody → Prop
  | .preImage g payload => g < 2097152 ∧ payload.length = 32
  | .commit i => i.preImages < 4294967296

theorem kindBytes_length (b : RecordBody) : b.kindBytes.length = 3 := by
  cases b <;> simp [RecordBody.kindBytes]

/-- R187: the segments of a COMMIT record's bytes 16 to 47. -/
def CommitInfo.segments (i : CommitInfo) : List (List Byte) :=
  [leBytes 4 i.preImages, leBytes 4 i.writes.toNat, leBytes 4 i.stamp.toNat, [flagsByte i.broken i.changed], List.replicate 19 0]

theorem bodyBytes_commit (i : CommitInfo) : RecordBody.bodyBytes (.commit i) = i.segments.flatten := by
  simp [RecordBody.bodyBytes, CommitInfo.segments]

theorem bodyBytes_length {b : RecordBody} (h : b.Fits) : b.bodyBytes.length = 32 := by
  cases b with
  | preImage g payload => exact h.2
  | commit i => simp [RecordBody.bodyBytes]

/-- R187: the segments of a record's 48 bytes. -/
def Record.segments (slot : Nat) (r : Record) : List (List Byte) :=
  [r.body.kindBytes, leBytes 3 r.seq.toNat, leBytes 2 r.format.toNat, leBytes 4 r.epoch.toNat,
    leBytes 4 (recordCheck r.body.kindBytes r.seq r.formatEpoch r.body.bodyBytes slot).toNat, r.body.bodyBytes]

theorem encode_eq_segments (slot : Nat) (r : Record) : r.encode slot = (r.segments slot).flatten := by
  simp [Record.encode, Record.segments, Record.formatEpoch]

/-- R187: each field of a record's bytes. -/
theorem fieldAt_record {slot : Nat} {r : Record} (i : Nat) {seg : List Byte} {o n : Nat}
    (hseg : (r.segments slot)[i]? = some seg) (ho : (((r.segments slot).take i).map List.length).sum = o) (hn : seg.length = n) :
    fieldAt o n (r.encode slot) = seg := by
  rw [encode_eq_segments]
  exact fieldAt_segment i hseg ho hn

theorem sequenceRead_of_stored {q x : Word} {bytes : List Byte} (h : x.toNat / 16777216 = q.toNat / 16777216)
    (hstored : fieldAt 3 3 bytes = leBytes 3 x.toNat) : sequenceRead q bytes = x := by
  have hx := x.isLt
  unfold sequenceRead
  rw [hstored, leNat_leBytes]
  apply BitVec.eq_of_toNat_eq
  rw [BitVec.toNat_ofNat]
  omega

theorem commitInfoOf_body {i : CommitInfo} {bytes : List Byte} (h : i.preImages < 4294967296)
    (hbody : fieldAt 16 32 bytes = i.segments.flatten) : commitInfoOf bytes = i := by
  have hfield (k : Nat) {seg : List Byte} {o n : Nat} (hseg : i.segments[k]? = some seg)
      (ho : ((i.segments.take k).map List.length).sum = o) (hn : seg.length = n) (hle : o + n ≤ 32) :
      fieldAt (16 + o) n bytes = seg := by
    rw [← fieldAt_fieldAt hle, hbody]
    exact fieldAt_segment k hseg ho hn
  have hpre : fieldAt 16 4 bytes = leBytes 4 i.preImages := hfield (o := 0) 0 rfl rfl (by simp) (by decide)
  have hwrites : fieldAt 20 4 bytes = leBytes 4 i.writes.toNat :=
    hfield (o := 4) 1 rfl (by simp [CommitInfo.segments]) (by simp) (by decide)
  have hstamp : fieldAt 24 4 bytes = leBytes 4 i.stamp.toNat :=
    hfield (o := 8) 2 rfl (by simp [CommitInfo.segments]) (by simp) (by decide)
  have hflags : bytes.getD 28 0 = flagsByte i.broken i.changed :=
    getD_eq_of_fieldAt (hfield (o := 12) 3 rfl (by simp [CommitInfo.segments]) rfl (by decide))
  obtain ⟨hbroken, hchanged⟩ := flagsByte_bits i.broken i.changed
  have hcount : leNat (leBytes 4 i.preImages) = i.preImages := by
    rw [leNat_leBytes]
    exact Nat.mod_eq_of_lt h
  rw [commitInfoOf, hpre, hwrites, hstamp, hflags, hcount, leWord_leBytes, leWord_leBytes, hbroken, hchanged]

theorem recordBodyOf_encode {b : RecordBody} {bytes : List Byte} (h : b.Fits) (hkind : fieldAt 0 3 bytes = b.kindBytes)
    (hbody : fieldAt 16 32 bytes = b.bodyBytes) : recordBodyOf bytes = some b := by
  unfold recordBodyOf
  rw [hkind]
  cases b with
  | preImage g payload =>
    obtain ⟨hg, -⟩ := h
    have hnat : leNat (RecordBody.preImage g payload).kindBytes = 2097152 + g := by
      rw [RecordBody.kindBytes, leNat_leBytes]
      exact Nat.mod_eq_of_lt (by omega)
    have hcode : (2097152 + g) / 2097152 = 1 := by omega
    have hindex : (2097152 + g) % 2097152 = g := by omega
    simp only [hnat, hcode, hindex, if_true, hbody, RecordBody.bodyBytes]
  | commit i =>
    have hnat : leNat (RecordBody.commit i).kindBytes = 4194304 := by
      rw [RecordBody.kindBytes, leNat_leBytes]
      exact Nat.mod_eq_of_lt (by decide)
    simp only [hnat, commitInfoOf_body h (hbody.trans (bodyBytes_commit i))]
    rfl

/-- R49, R50, R187, R189: a record written to a slot is read back from it. -/
theorem decodeRecord_encode (slot : Nat) {r : Record} {q : Word} (hseq : r.seq.toNat / 16777216 = q.toNat / 16777216)
    (h : r.body.Fits) : decodeRecord slot q (r.encode slot) = some r := by
  have hlen := kindBytes_length r.body
  have hkind : fieldAt 0 3 (r.encode slot) = r.body.kindBytes := fieldAt_record 0 rfl rfl hlen
  have hstored : fieldAt 3 3 (r.encode slot) = leBytes 3 r.seq.toNat :=
    fieldAt_record 1 rfl (by simp [Record.segments, hlen]) (by simp)
  have hformat : fieldAt 6 2 (r.encode slot) = leBytes 2 r.format.toNat :=
    fieldAt_record 2 rfl (by simp [Record.segments, hlen]) (by simp)
  have hepoch : fieldAt 8 4 (r.encode slot) = leBytes 4 r.epoch.toNat :=
    fieldAt_record 3 rfl (by simp [Record.segments, hlen]) (by simp)
  have hcheck := fieldAt_record (slot := slot) (r := r) (o := 12) (n := 4) 4 rfl (by simp [Record.segments, hlen]) (by simp)
  have hbody : fieldAt 16 32 (r.encode slot) = r.body.bodyBytes :=
    fieldAt_record 5 rfl (by simp [Record.segments, hlen]) (bodyBytes_length h)
  have hboth : fieldAt 6 6 (r.encode slot) = r.formatEpoch := by
    rw [← fieldAt_append_next 6 2 4, hformat, hepoch, Record.formatEpoch]
  unfold decodeRecord
  simp only [sequenceRead_of_stored hseq hstored, hkind, hformat, hepoch, hcheck, hbody, hboth, leWord_leBytes, leHalf_leBytes,
    recordBodyOf_encode h hkind hbody, if_true, Option.map_some]

/-! ### Anchors (R97, R98, R188) -/

/-- R188: what the 31 bits of a window entry's length can hold. -/
def WindowFits (w : Option Window) : Prop := ∀ x, w = some x → x.base < 4294967296 ∧ 0 < x.length ∧ x.length < 2147483648

theorem windowBytes_length (w : Option Window) : (windowBytes w).length = 8 := by
  cases w <;> simp [windowBytes]

/-- R188: the second word of a window entry names its length and its mode. -/
theorem windowOf_words {base second : Nat} (hbase : base < 4294967296) (hsecond : second < 4294967296) :
    windowOf (leBytes 4 base ++ leBytes 4 second) = if second = 0 then none else some
      { base := base, length := second % 2147483648, mode := if second / 2147483648 = 0 then .journaled else .frozen } := by
  have hlow : fieldAt 0 4 (leBytes 4 base ++ leBytes 4 second) = leBytes 4 base := by
    rw [fieldAt_append_left 0 4 _ _ (by simp), fieldAt_whole 4 _ (by simp)]
  have hhigh : fieldAt 4 4 (leBytes 4 base ++ leBytes 4 second) = leBytes 4 second := by
    rw [fieldAt_append_right 4 4 _ _ (by simp), leBytes_length, fieldAt_whole 4 _ (by simp)]
  have hnat {x : Nat} (hx : x < 4294967296) : leNat (leBytes 4 x) = x := by
    rw [leNat_leBytes]
    exact Nat.mod_eq_of_lt hx
  simp only [windowOf, hlow, hhigh, hnat hbase, hnat hsecond]

theorem windowOf_windowBytes {w : Option Window} (h : WindowFits w) : windowOf (windowBytes w) = w := by
  cases w with
  | none => exact (windowOf_words (by decide) (by decide)).trans (if_pos rfl)
  | some x =>
    obtain ⟨hbase, hpos, hlength⟩ := h x rfl
    obtain ⟨base, length, mode⟩ := x
    simp only at hbase hpos hlength
    cases mode with
    | journaled =>
      have hmod : length % 2147483648 = length := Nat.mod_eq_of_lt hlength
      have hdiv : length / 2147483648 = 0 := Nat.div_eq_of_lt hlength
      refine (windowOf_words hbase (second := length) (hlength.trans (by decide))).trans ?_
      simp [hmod, hdiv, Nat.ne_of_gt hpos]
    | frozen =>
      have hmod : (length + 2147483648) % 2147483648 = length := by omega
      have hdiv : (length + 2147483648) / 2147483648 = 1 := by omega
      refine (windowOf_words hbase (second := length + 2147483648) (by omega)).trans ?_
      simp [hmod, hdiv]

theorem dirEntryBytes_length (d : DirEntry) : (dirEntryBytes d).length = 20 := by
  simp [dirEntryBytes]

/-- R188: the segments of a directory entry's 20 bytes. -/
def DirEntry.segments (d : DirEntry) : List (List Byte) :=
  [leBytes 4 d.number.toNat, leBytes 3 d.firstSlot, leBytes 3 d.slots, leBytes 4 d.writes.toNat, leBytes 4 d.stamp.toNat,
    [flagsByte d.broken false], [0]]

theorem dirEntryOf_dirEntryBytes {d : DirEntry} (hfirst : d.firstSlot < 16777216) (hslots : d.slots < 16777216)
    (hpre : d.preImages = d.slots - 1) : dirEntryOf (dirEntryBytes d) = d := by
  have hbytes : dirEntryBytes d = d.segments.flatten := by simp [dirEntryBytes, DirEntry.segments]
  have hfield (k : Nat) {seg : List Byte} {o n : Nat} (hseg : d.segments[k]? = some seg)
      (ho : ((d.segments.take k).map List.length).sum = o) (hn : seg.length = n) : fieldAt o n (dirEntryBytes d) = seg := by
    rw [hbytes]
    exact fieldAt_segment k hseg ho hn
  have hnumber : fieldAt 0 4 (dirEntryBytes d) = leBytes 4 d.number.toNat := hfield 0 rfl rfl (by simp)
  have hfirstSlot : fieldAt 4 3 (dirEntryBytes d) = leBytes 3 d.firstSlot := hfield 1 rfl (by simp [DirEntry.segments]) (by simp)
  have hcount : fieldAt 7 3 (dirEntryBytes d) = leBytes 3 d.slots := hfield 2 rfl (by simp [DirEntry.segments]) (by simp)
  have hwrites : fieldAt 10 4 (dirEntryBytes d) = leBytes 4 d.writes.toNat :=
    hfield 3 rfl (by simp [DirEntry.segments]) (by simp)
  have hstamp : fieldAt 14 4 (dirEntryBytes d) = leBytes 4 d.stamp.toNat := hfield 4 rfl (by simp [DirEntry.segments]) (by simp)
  have hflags : (dirEntryBytes d).getD 18 0 = flagsByte d.broken false :=
    getD_eq_of_fieldAt (hfield 5 rfl (by simp [DirEntry.segments]) rfl)
  have hnat {x : Nat} (hx : x < 16777216) : leNat (leBytes 3 x) = x := by
    rw [leNat_leBytes]
    exact Nat.mod_eq_of_lt hx
  rw [dirEntryOf, hnumber, hfirstSlot, hcount, hwrites, hstamp, hflags, leWord_leBytes, leWord_leBytes, leWord_leBytes,
    hnat hfirst, hnat hslots, (flagsByte_bits d.broken false).1, ← hpre]

/-- R97, R188: what the fields of an anchor's bytes can hold. -/
structure Anchor.Fits (a : Anchor) : Prop where
  windows : a.table.length = 8
  window : ∀ w ∈ a.table, WindowFits w
  entries : a.directory.length ≤ 15
  entry : ∀ d ∈ a.directory, d.firstSlot < 16777216 ∧ d.slots < 16777216 ∧ d.preImages = d.slots - 1
  firstSlot : a.openFirstSlot < 4294967296
  tail : a.tail < 4294967296
  occupancy : a.occupancy < 4294967296
  intent : a.intent ≠ some 0

/-- R188: an anchor's windows, one behind the other. -/
def Anchor.windowField (a : Anchor) : List Byte := a.table.flatMap windowBytes

/-- R188: an anchor's directory entries, with zeros behind them. -/
def Anchor.directoryField (a : Anchor) : List Byte :=
  a.directory.flatMap dirEntryBytes ++ List.replicate (300 - 20 * a.directory.length) 0

theorem length_flatMap_const {α : Type} {f : α → List Byte} {k : Nat} (hlen : ∀ x, (f x).length = k) (xs : List α) :
    (xs.flatMap f).length = k * xs.length := by
  induction xs with
  | nil => rfl
  | cons x xs ih => rw [List.flatMap_cons, List.length_append, hlen, ih, List.length_cons, Nat.mul_succ, Nat.add_comm]

theorem windowField_length {a : Anchor} (h : a.Fits) : a.windowField.length = 64 := by
  rw [Anchor.windowField, length_flatMap_const windowBytes_length, h.windows]

theorem directoryField_length {a : Anchor} (h : a.Fits) : a.directoryField.length = 300 := by
  have hentries := h.entries
  rw [Anchor.directoryField, List.length_append, length_flatMap_const dirEntryBytes_length, List.length_replicate]
  omega

/-- R188: the segments of an anchor slot's bytes 0 to 507. -/
def Anchor.segments (a : Anchor) : List (List Byte) :=
  [leBytes 4 a.seq.toNat, leBytes 2 a.format.toNat, [a.jsize], [BitVec.ofNat 8 a.directory.length], a.windowField,
    a.directoryField, leBytes 4 a.openNumber.toNat, leBytes 4 a.openFirstSlot, leBytes 4 a.openFirstSeq.toNat, leBytes 4 a.tail,
    leBytes 4 a.occupancy, leBytes 4 (a.intent.getD 0).toNat, [flagsByte a.openBroken false], [a.jbase], List.replicate 110 0]

theorem content_eq_segments (a : Anchor) : a.content = a.segments.flatten := by
  simp [Anchor.content, Anchor.segments, Anchor.windowField, Anchor.directoryField]

theorem content_length {a : Anchor} (h : a.Fits) : a.content.length = 508 := by
  rw [content_eq_segments]
  simp [Anchor.segments, windowField_length h, directoryField_length h]

/-- R188: each field of an anchor slot's bytes. -/
theorem fieldAt_anchor {a : Anchor} (h : a.Fits) (t : AnchorSlot) (i : Nat) {seg : List Byte} {o n : Nat}
    (hseg : a.segments[i]? = some seg) (ho : ((a.segments.take i).map List.length).sum = o) (hn : seg.length = n)
    (hle : o + n ≤ 508) : fieldAt o n (a.encode t) = seg := by
  rw [Anchor.encode, fieldAt_append_left o n _ _ (by rwa [content_length h]), content_eq_segments]
  exact fieldAt_segment i hseg ho hn

/-- R188: the windows of an anchor's bytes. -/
theorem windows_readBack {a : Anchor} (h : a.Fits) {bytes : List Byte} (hfield : fieldAt 8 64 bytes = a.windowField) :
    ((List.range 8).map fun i => windowOf (fieldAt (8 + 8 * i) 8 bytes)) = a.table := by
  have hback := map_fieldAt_flatMap (f := windowBytes) (g := windowOf) (xs := a.table) (k := 8) []
    (fun w _ => windowBytes_length w) fun w hw => windowOf_windowBytes (h.window w hw)
  rw [h.windows, List.append_nil] at hback
  rw [← hback]
  refine List.map_congr_left fun i hi => ?_
  have hlt := List.mem_range.1 hi
  rw [← fieldAt_fieldAt (m := 64) (by omega), hfield, Anchor.windowField]

/-- R188: the directory of an anchor's bytes. -/
theorem directory_readBack {a : Anchor} (h : a.Fits) {bytes : List Byte} (hfield : fieldAt 72 300 bytes = a.directoryField) :
    ((List.range a.directory.length).map fun i => dirEntryOf (fieldAt (72 + 20 * i) 20 bytes)) = a.directory := by
  have hentries := h.entries
  refine Eq.trans (List.map_congr_left fun i hi => ?_) (map_fieldAt_flatMap (f := dirEntryBytes) (g := dirEntryOf) (k := 20)
    (List.replicate (300 - 20 * a.directory.length) 0) (fun d _ => dirEntryBytes_length d) fun d hd => ?_)
  · have hlt := List.mem_range.1 hi
    rw [← fieldAt_fieldAt (m := 300) (by omega), hfield, Anchor.directoryField]
  · obtain ⟨hfirst, hslots, hpre⟩ := h.entry d hd
    exact dirEntryOf_dirEntryBytes hfirst hslots hpre

/-- R188: an anchor whose directory fits in the fifteen entries is counted in one byte. -/
theorem entryCount_toNat {a : Anchor} (h : a.Fits) : (BitVec.ofNat 8 a.directory.length).toNat = a.directory.length := by
  have hentries := h.entries
  rw [BitVec.toNat_ofNat]
  omega

/-- R188: the intended recovery is written as its number, and its absence as zero. -/
theorem intent_readBack {intent : Option Word} (h : intent ≠ some 0) :
    (if intent.getD 0 = 0 then none else some (intent.getD 0)) = intent := by
  cases intent with
  | none => rfl
  | some c => exact if_neg fun hc : c = 0 => h (congrArg some hc)

/-- R97, R98, R188, R189: an anchor written to a slot is valid there under the straps it records, and is read back. -/
theorem validAnchor_encode (t : AnchorSlot) {jb : BitVec 4} {js : BitVec 3} {a : Anchor} (hjb : a.jbase = jb.setWidth 8)
    (hjs : a.jsize = js.setWidth 8) (hformat : a.format ≠ 0) (h : a.Fits) : validAnchor t jb js (a.encode t) = some a := by
  have hwindows := windowField_length h
  have hdirectory := directoryField_length h
  have hcontent := content_length h
  have hseq : fieldAt 0 4 (a.encode t) = leBytes 4 a.seq.toNat := fieldAt_anchor h t 0 rfl rfl (by simp) (by decide)
  have hform : fieldAt 4 2 (a.encode t) = leBytes 2 a.format.toNat :=
    fieldAt_anchor h t 1 rfl (by simp [Anchor.segments]) (by simp) (by decide)
  have hsize : (a.encode t).getD 6 0 = a.jsize :=
    getD_eq_of_fieldAt (fieldAt_anchor h t 2 rfl (by simp [Anchor.segments]) rfl (by decide))
  have hcount : (a.encode t).getD 7 0 = BitVec.ofNat 8 a.directory.length :=
    getD_eq_of_fieldAt (fieldAt_anchor h t 3 rfl (by simp [Anchor.segments]) rfl (by decide))
  have htable : fieldAt 8 64 (a.encode t) = a.windowField :=
    fieldAt_anchor h t 4 rfl (by simp [Anchor.segments]) hwindows (by decide)
  have hdir : fieldAt 72 300 (a.encode t) = a.directoryField :=
    fieldAt_anchor h t 5 rfl (by simp [Anchor.segments, hwindows]) hdirectory (by decide)
  have hword (i : Nat) {x o : Nat} (hseg : a.segments[i]? = some (leBytes 4 x))
      (ho : ((a.segments.take i).map List.length).sum = o) (hle : o + 4 ≤ 508) : fieldAt o 4 (a.encode t) = leBytes 4 x :=
    fieldAt_anchor h t i hseg ho (by simp) hle
  have hopen : fieldAt 372 4 (a.encode t) = leBytes 4 a.openNumber.toNat :=
    hword 6 rfl (by simp [Anchor.segments, hwindows, hdirectory]) (by decide)
  have hfirst : fieldAt 376 4 (a.encode t) = leBytes 4 a.openFirstSlot :=
    hword 7 rfl (by simp [Anchor.segments, hwindows, hdirectory]) (by decide)
  have hfirstSeq : fieldAt 380 4 (a.encode t) = leBytes 4 a.openFirstSeq.toNat :=
    hword 8 rfl (by simp [Anchor.segments, hwindows, hdirectory]) (by decide)
  have htail : fieldAt 384 4 (a.encode t) = leBytes 4 a.tail :=
    hword 9 rfl (by simp [Anchor.segments, hwindows, hdirectory]) (by decide)
  have hoccupancy : fieldAt 388 4 (a.encode t) = leBytes 4 a.occupancy :=
    hword 10 rfl (by simp [Anchor.segments, hwindows, hdirectory]) (by decide)
  have hintent : fieldAt 392 4 (a.encode t) = leBytes 4 (a.intent.getD 0).toNat :=
    hword 11 rfl (by simp [Anchor.segments, hwindows, hdirectory]) (by decide)
  have hflags : (a.encode t).getD 396 0 = flagsByte a.openBroken false :=
    getD_eq_of_fieldAt (fieldAt_anchor h t 12 rfl (by simp [Anchor.segments, hwindows, hdirectory]) rfl (by decide))
  have hbase : (a.encode t).getD 397 0 = a.jbase :=
    getD_eq_of_fieldAt (fieldAt_anchor h t 13 rfl (by simp [Anchor.segments, hwindows, hdirectory]) rfl (by decide))
  have hbytes : fieldAt 0 508 (a.encode t) = a.content := by
    rw [Anchor.encode, fieldAt_append_left 0 508 _ _ (by rw [hcontent]), fieldAt_whole 508 _ hcontent]
  have hcheck : fieldAt 508 4 (a.encode t) = leBytes 4 (anchorCheck a.content t).toNat := by
    rw [Anchor.encode, fieldAt_append_right 508 4 _ _ (by rw [hcontent]), hcontent, fieldAt_whole 4 _ (by simp)]
  have hnat {x : Nat} (hx : x < 4294967296) : leNat (leBytes 4 x) = x := by
    rw [leNat_leBytes]
    exact Nat.mod_eq_of_lt hx
  have hread : anchorOf (a.encode t) = a := by
    unfold anchorOf
    rw [hseq, hform, hsize, hbase, hcount, entryCount_toNat h, windows_readBack h htable, directory_readBack h hdir, hopen, hfirst,
      hfirstSeq, hflags, htail, hoccupancy, hintent, leHalf_leBytes, (flagsByte_bits a.openBroken false).1, hnat h.firstSlot,
      hnat h.tail, hnat h.occupancy]
    simp only [leWord_leBytes, intent_readBack h.intent]
  have hvalid : leWord (fieldAt 508 4 (a.encode t)) = anchorCheck (fieldAt 0 508 (a.encode t)) t ∧
      (a.encode t).getD 6 0 = js.setWidth 8 ∧ (a.encode t).getD 397 0 = jb.setWidth 8 ∧
      leHalf (fieldAt 4 2 (a.encode t)) ≠ 0 ∧ ((a.encode t).getD 7 0).toNat ≤ 15 := by
    rw [hcheck, hbytes, leWord_leBytes, hsize, hbase, hform, leHalf_leBytes, hcount, entryCount_toNat h]
    exact ⟨rfl, hjs, hjb, hformat, h.entries⟩
  rw [validAnchor, if_pos hvalid, hread]


/-! ### Frames (R177, R190) -/

theorem frame_statement (i : Instr) : Laws.Frame.Statement i := by
  cases i with
  | powerUp straps prstLow pfwLow csLow raised => exact Laws.Frame.powerUp straps prstLow pfwLow csLow raised
  | prstAssert straps raised => exact Laws.Frame.prstAssert straps raised
  | prstWithdraw => exact Laws.Frame.prstWithdraw
  | requestAccept r => exact Laws.Frame.requestAccept r
  | holdExpiry => exact Laws.Frame.holdExpiry
  | memoryResponse a => exact Laws.Frame.memoryResponse a
  | commit => exact Laws.Frame.commit
  | autoCommitExpiry => exact Laws.Frame.autoCommitExpiry
  | lineQualify l => exact Laws.Frame.lineQualify l
  | rollback target => exact Laws.Frame.rollback target
  | discard upTo => exact Laws.Frame.discard upTo
  | format => exact Laws.Frame.format
  | clearDamage => exact Laws.Frame.clearDamage
  | retireSweepEnd => exact Laws.Frame.retireSweepEnd
  | fullClearEnd => exact Laws.Frame.fullClearEnd
  | haltBegin => exact Laws.Frame.haltBegin
  | haltEnd => exact Laws.Frame.haltEnd
  | stampIncrement => exact Laws.Frame.stampIncrement
  | frameStart => exact Laws.Frame.frameStart
  | frameEnd => exact Laws.Frame.frameEnd
  | getStatus => exact Laws.Frame.getStatus
  | getIdentity => exact Laws.Frame.getIdentity
  | readEvents => exact Laws.Frame.readEvents
  | setEventMask value => exact Laws.Frame.setEventMask value
  | getOpenEpoch => exact Laws.Frame.getOpenEpoch
  | getDirectoryEntry k => exact Laws.Frame.getDirectoryEntry k
  | getReport => exact Laws.Frame.getReport
  | setPolicy selector value => exact Laws.Frame.setPolicy selector value
  | getPolicy => exact Laws.Frame.getPolicy
  | stageWindow slot base length mode => exact Laws.Frame.stageWindow slot base length mode
  | clearWindow slot => exact Laws.Frame.clearWindow slot
  | getWindow table slot => exact Laws.Frame.getWindow table slot
  | setStamp value => exact Laws.Frame.setStamp value
  | getStamp => exact Laws.Frame.getStamp
  | linkReset => exact Laws.Frame.linkReset
  | unknownCommand code => exact Laws.Frame.unknownCommand code
  | lineSamplingEvent ckpt fallback => exact Laws.Frame.lineSamplingEvent ckpt fallback
  | bytePositionEnd mosi => exact Laws.Frame.bytePositionEnd mosi

/-- Settles O55: records and anchors are laid out as segments, one behind the other, and each field of the bytes is the segment that
stands there; the frames are spelled command by command. -/
theorem recordsAnchorsAndFramesReadBack : Obligations.RecordsAnchorsAndFramesReadBack := by
  refine ⟨crc32_eq_foldl, ?record, ?anchor, fun i code args hwell hbytes => frame_statement i hwell code args hbytes⟩
  case record =>
    intro slot r q hseq hbody
    have hfits : r.body.Fits := by
      cases hb : r.body with
      | preImage g payload =>
        rw [hb] at hbody
        exact hbody
      | commit i =>
        rw [hb] at hbody
        exact hbody
    exact decodeRecord_encode slot hseq hfits
  case anchor =>
    intro t jb js a hjb hjs hformat hlen hwindow hentries hentry hfirst htail hoccupancy hintent
    exact validAnchor_encode t hjb hjs hformat
      { windows := hlen, window := hwindow, entries := hentries, entry := hentry, firstSlot := hfirst, tail := htail,
        occupancy := hoccupancy, intent := hintent }

end Sys2Proof.Machine
end

section
/-! SUPPORT. The steps of a save, the room made for it, and the scan (R45, R55 to R67, R121, R140, R141). -/

namespace Sys2Proof.Machine

/-! ### What memory's answer is handed to -/

/-- R155: an answer in flight for the request path is handed to it. -/
theorem exec_okay_request {s u : State} {r : Request} {data : List Byte} (hreset : s.inReset = false)
    (hflight : s.port.inFlight = some (.request, r))
    (hu : State.requestResponse (.okay data) { s with port.inFlight := none } = u) :
    exec (.memoryResponse (.okay data)) s = .next (u.finish s.claimWaits) := by
  subst hu
  show Host.Outcome.next (s.event (State.memoryResponded (.okay data))) = _
  rw [event_of_live hreset, State.memoryResponded, hflight]
  rfl

theorem controllerResponse_last {s : State} {t : Request} {o : Owner} {got data : List Byte}
    (h : s.jc.work = some { owner := o, todo := [t], got := got }) : s.controllerResponse (.okay data) =
    State.workDone o (got ++ data.take t.returnSize) { s with jc.work := none } := by
  rw [State.controllerResponse, h]

/-- R155, R160: an answer in flight for the controller that is the last of a transfer ends the transfer. -/
theorem exec_okay_last {s u : State} {r t : Request} {o : Owner} {got data : List Byte} (hreset : s.inReset = false)
    (hflight : s.port.inFlight = some (.controller, r)) (hwork : s.jc.work = some { owner := o, todo := [t], got := got })
    (hu : State.workDone o (got ++ data.take t.returnSize) { s with port.inFlight := none, jc.work := none } = u) :
    exec (.memoryResponse (.okay data)) s = .next (u.finish s.claimWaits) := by
  subst hu
  show Host.Outcome.next (s.event (State.memoryResponded (.okay data))) = _
  rw [event_of_live hreset, State.memoryResponded, hflight]
  exact congrArg (fun u => Host.Outcome.next (State.finish s.claimWaits u))
    (controllerResponse_last (s := { s with port.inFlight := none }) hwork)

theorem perform_of_queue {s : State} {e : Entry} {rest : List Entry} (h : s.front.queue = e :: rest) (counts : Bool) :
    s.perform counts = s.claimFirst e.req.aligned (.performing counts) .idle := by
  rw [State.perform, h]

/-! ### The save's record (R45, R66, R67) -/

/-- R45: a record is written by one transaction and four that follow it. -/
theorem recordWrites_cons (base slot : Nat) (bytes : List Byte) :
    ∃ (w : Request) (left : List Request), recordWrites base slot bytes = w :: left ∧ left.length = 4 := by
  obtain heven | hodd := Nat.mod_two_eq_zero_or_one slot
  · exact ⟨_, _, recordWrites_even heven bytes, rfl⟩
  · exact ⟨_, _, recordWrites_odd hodd bytes, rfl⟩

theorem requestResponse_read {s : State} {g t : Nat} {data : List Byte} {w : Request} {left : List Request}
    (h : s.save = .read g t)
    (hwrites : recordWrites s.base s.jc.head ((s.saveRecord g (data.take 32)).encode s.jc.head) = w :: left) :
    s.requestResponse (.okay data) = { s with
      port.reqClaim := some w
      save := .record g t (data.take 32) ((s.saveRecord g (data.take 32)).encode s.jc.head) left } := by
  simp only [State.requestResponse, h, State.saveReadOkay, hwrites]

theorem requestResponse_record {s : State} {g t : Nat} {p b data : List Byte} {w : Request} {left : List Request}
    (h : s.save = .record g t p b (w :: left)) : s.requestResponse (.okay data) =
    { s with save := .record g t p b left, port.reqClaim := some w } := by
  simp only [State.requestResponse, h]

/-- R67: what the last write of a save's record leaves, before the write that asked for it is released. -/
def State.recordSaved (t : Nat) (s : State) : State :=
  { s.recordAdded with
    jc.epoch := s.jc.epoch.map fun e => { e with preImages := e.preImages + 1 }
    tags.store := s.tags.store.set t s.openGeneration }

theorem saveComplete_eq (t : Nat) (s : State) : s.saveComplete t = (s.recordSaved t).perform true := rfl

theorem requestResponse_lastRecord {s : State} {g t : Nat} {p b data : List Byte} {e : Entry} {rest : List Entry}
    (h : s.save = .record g t p b []) (hqueue : s.front.queue = e :: rest) : s.requestResponse (.okay data) =
    { s with
      port.reqClaim := some e.req.aligned
      front.phase := .performing true
      front.holdTimer := none
      front.holdReason := none
      save := .idle
      jc.head := slotAfter s.capacity s.jc.head
      jc.occupancy := s.jc.occupancy + 1
      jc.nextSeq := s.jc.nextSeq + 1
      jc.epoch := s.jc.epoch.map fun ep => { ep with preImages := ep.preImages + 1 }
      tags.store := s.tags.store.set t s.openGeneration } := by
  have hcomplete : s.requestResponse (.okay data) = s.saveComplete t := by simp only [State.requestResponse, h]
  rw [hcomplete, saveComplete_eq]
  exact perform_of_queue (s := s.recordSaved t) hqueue true

/-- Settles O14, by the state of the save that memory answers: the granule read, a write of the record before its last,
and the last. -/
theorem aSaveWritesItsRecordThenReleasesTheWrite : Obligations.ASaveWritesItsRecordThenReleasesTheWrite := by
  refine ⟨?read, ?next, ?last⟩
  case read =>
    intro s r g t data hreset hflight hsave
    obtain ⟨w, left, hwrites, hlength⟩ := recordWrites_cons s.base s.jc.head ((s.saveRecord g (data.take 32)).encode s.jc.head)
    exact ⟨w, left, hwrites, hlength,
      exec_okay_request hreset hflight (requestResponse_read (s := { s with port.inFlight := none }) hsave hwrites)⟩
  case next =>
    intro s r w g t p b left data hreset hflight hsave
    exact exec_okay_request hreset hflight (requestResponse_record (s := { s with port.inFlight := none }) hsave)
  case last =>
    intro s r e rest g t p b data hreset hflight hqueue hsave
    exact exec_okay_request hreset hflight
      (requestResponse_lastRecord (s := { s with port.inFlight := none }) hsave hqueue)

/-! ### Asking for room (R55 to R60, R121) -/

theorem canReclaim_of_cons {s : State} {d : DirEntry} {ds : List DirEntry} (h : s.jc.directory = d :: ds)
    (hbelow : ∀ c, s.jc.state = .rollingBack c → d.number < c.target) : s.canReclaim = true := by
  unfold State.canReclaim
  rw [h]
  cases hk : s.jc.state with
  | rollingBack c => exact decide_eq_true (hbelow c hk)
  | _ => rfl

theorem canReclaim_of_kept {s : State} (h : s.jc.directory = [] ∨
    ∃ d ds c, s.jc.directory = d :: ds ∧ s.jc.state = .rollingBack c ∧ c.target ≤ d.number) : s.canReclaim = false := by
  unfold State.canReclaim
  obtain hnil | ⟨d, ds, c, hcons, hk, hle⟩ := h
  · rw [hnil]
  · rw [hcons, hk]
    exact decide_eq_false (BitVec.not_lt.2 hle)

/-- R57: the ring without its oldest entry, with a reclaim asked for. -/
def State.reclaiming (d : DirEntry) (ds : List DirEntry) (s : State) : State :=
  { s with
    jc.directory := ds
    jc.tail := (s.jc.tail + d.slots) % s.capacity
    jc.occupancy := s.jc.occupancy - d.slots
    jc.room := some .reclaim }

theorem reclaimStep_of_cons {s : State} {d : DirEntry} {ds : List DirEntry} (h : s.jc.directory = d :: ds) :
    s.reclaimStep = (s.reclaiming d ds).startUpdate .reclaim (s.reclaiming d ds).image := by
  have hdrop : s.dropOldest = { s.reclaiming d ds with jc.room := s.jc.room } := by
    rw [State.dropOldest, h]
    rfl
  rw [State.reclaimStep, hdrop]
  rfl

/-- R60: the open epoch broken, with an unguard asked for. -/
def State.unguarding (s : State) : State :=
  { s with
    jc.epoch := s.jc.epoch.map fun e => { e with broken := true }
    jc.room := some .unguard }

theorem unguardStep_eq (s : State) : s.unguardStep = s.unguarding.startUpdate .unguard s.unguarding.image := rfl

/-- R60: an unguard's image marks the open epoch broken. -/
theorem unguarding_openBroken (s : State) : s.unguarding.openBroken = s.jc.epoch.isSome := by
  unfold State.openBroken State.unguarding
  cases s.jc.epoch <;> rfl

theorem askRoom_reclaim {s : State} (hpolicy : s.link.policies.reclaim = true) (h : s.canReclaim = true) :
    s.askRoom = s.reclaimStep := by
  rw [State.askRoom, hpolicy, h]
  rfl

theorem askRoom_unguard {s : State} (h : s.link.policies.reclaim = false ∨ s.canReclaim = false) :
    s.askRoom = s.unguardStep := by
  have hneither : (s.link.policies.reclaim && s.canReclaim) = false := Bool.and_eq_false_iff.2 h
  rw [State.askRoom, hneither]
  rfl

/-- R65: where a save in ROOM may ask for room. -/
theorem roomStep_of_saves {s : State} (h : s.name = .opened ∨ s.name = .committing ∨ s.name = .rollingBack) (g n : Nat) :
    s.roomStep g n = if s.jc.room.isSome then none else if 2 ≤ s.free then some (s.claimSaveRead g n) else some s.askRoom := by
  unfold State.roomStep
  obtain hname | hname | hname := h <;> rw [hname]

theorem roomStep_asks {s : State} (h : s.name = .opened ∨ s.name = .committing ∨ s.name = .rollingBack)
    (hroom : s.jc.room = none) (hfree : s.free < 2) (g n : Nat) : s.roomStep g n = some s.askRoom := by
  rw [roomStep_of_saves h, hroom, if_neg (by simp), if_neg (Nat.not_le.2 hfree)]

theorem headStep_of_room {s : State} {g n : Nat} {e : Entry} {rest : List Entry} (hqueue : s.front.queue = e :: rest)
    (hprogress : s.inProgress = false) (hhalt : s.lines.halt = false) (hsave : s.save = .room g n) :
    s.headStep = s.roomStep g n := by
  unfold State.headStep
  rw [hprogress, hqueue, hhalt, hsave]
  rfl

/-- R65: what a save in ROOM does, state by state. -/
theorem roomStep_by_name (s : State) (g n : Nat) :
    (s.name = .opened ∨ s.name = .committing ∨ s.name = .rollingBack →
      (s.jc.room ≠ none → s.roomStep g n = none) ∧
      (s.jc.room = none → 2 ≤ s.free → s.roomStep g n = some (s.claimSaveRead g n))) ∧
    (s.name = .discarding → s.roomStep g n = none) ∧
    (s.name ≠ .opened → s.name ≠ .committing → s.name ≠ .rollingBack → s.name ≠ .discarding →
      s.roomStep g n = some { s with save := .idle }) := by
  refine ⟨fun hsaves => ⟨fun hroom => ?_, fun hroom hfree => ?_⟩, fun hname => ?_,
    fun hopened hcommitting hrolling hdiscarding => ?_⟩
  · rw [roomStep_of_saves hsaves, if_pos (Option.isSome_iff_ne_none.2 hroom)]
  · rw [roomStep_of_saves hsaves, hroom, if_neg (by simp), if_pos hfree]
  · rw [State.roomStep, hname]
  · unfold State.roomStep
    split
    case h_1 | h_2 | h_3 | h_4 => contradiction
    all_goals rfl

/-- Settles O25: the save in ROOM of the head is the one that acts, and what it asks for is what the oldest entry allows. -/
theorem aSaveAsksForRoom : Obligations.ASaveAsksForRoom := by
  refine ⟨fun s g n e rest => headStep_of_room, roomStep_by_name, fun s g n hsaves hroom hfree => ⟨?reclaim, ?unguard⟩⟩
  case reclaim =>
    intro d ds hcons hpolicy hbelow
    have hask := askRoom_reclaim hpolicy (canReclaim_of_cons hcons hbelow)
    exact ⟨_, _, (roomStep_asks hsaves hroom hfree g n).trans (congrArg some (hask.trans (reclaimStep_of_cons hcons))),
      rfl, rfl, rfl, rfl, rfl, rfl, rfl, rfl, rfl, rfl, rfl, rfl, rfl⟩
  case unguard =>
    intro hkept
    have hrefused : s.link.policies.reclaim = false ∨ s.canReclaim = false := by
      obtain hnil | hpolicy | hrolling := hkept
      · exact Or.inr (canReclaim_of_kept (Or.inl hnil))
      · exact Or.inl hpolicy
      · exact Or.inr (canReclaim_of_kept (Or.inr hrolling))
    exact ⟨_, _, (roomStep_asks hsaves hroom hfree g n).trans (congrArg some ((askRoom_unguard hrefused).trans (unguardStep_eq s))),
      rfl, rfl, rfl, rfl, rfl, rfl, rfl, rfl, unguarding_openBroken s, rfl, rfl⟩

/-! ### The updates of a reclaim and of an unguard end (R57, R58, R60, R61) -/

/-- R101: what the last answer of an anchor update leaves, before its requester goes on. -/
def State.updateEnded (a : AnchorWrite) (s : State) : State :=
  { s with
    port.inFlight := none
    jc.work := none
    anchor.active := none
    anchor.newest := some { slot := a.target, seq := a.seq } }

theorem workDone_update {s : State} {a : AnchorWrite} (bytes : List Byte) (h : s.anchor.active = some a) :
    s.workDone .update bytes = State.requesterDone a.requester
      { s with anchor.active := none, anchor.newest := some { slot := a.target, seq := a.seq } } := by
  have hdone : s.workDone .update bytes = s.updateDone := by
    unfold State.workDone
    cases s.jc.state <;> rfl
  rw [hdone, State.updateDone, h]

/-- R101: the last answer of an anchor update hands on to the update's requester. -/
theorem exec_update_ends {s u : State} {r t : Request} {a : AnchorWrite} {got data : List Byte} (hreset : s.inReset = false)
    (hflight : s.port.inFlight = some (.controller, r)) (hwork : s.jc.work = some { owner := .update, todo := [t], got := got })
    (hactive : s.anchor.active = some a) (hu : (s.updateEnded a).requesterDone a.requester = u) :
    exec (.memoryResponse (.okay data)) s = .next (u.finish s.claimWaits) :=
  exec_okay_last hreset hflight hwork
    ((workDone_update (s := { s with port.inFlight := none, jc.work := none }) _ hactive).trans hu)

theorem requesterDone_reclaim (s : State) : s.requesterDone .reclaim = s.reclaimDone := by
  unfold State.requesterDone
  cases s.jc.state <;> rfl

theorem requesterDone_unguard (s : State) : s.requesterDone .unguard = s.unguardDone := by
  unfold State.requesterDone
  cases s.jc.state <;> rfl

/-- R58: a reclaim ends when there is room, or when no save waits for it any more. -/
theorem reclaimDone_ends {s : State} (h : 2 ≤ s.free ∨ ∀ g n, s.save ≠ .room g n) :
    s.reclaimDone = { s.raise .reclaimed with jc := { s.jc with room := none } } := by
  unfold State.reclaimDone
  dsimp only
  split
  case h_1 g n hsave =>
    have hfree : 2 ≤ (s.raise .reclaimed).free := h.resolve_right fun hnone => hnone g n hsave
    exact if_pos hfree
  all_goals rfl

theorem reclaimDone_goes_on {s : State} {g n : Nat} (hsave : s.save = .room g n) (hfree : s.free < 2) : s.reclaimDone =
    if s.canReclaim then (s.raise .reclaimed).reclaimStep else (s.raise .reclaimed).unguardStep := by
  have hkept : (s.raise .reclaimed).save = .room g n := hsave
  have hshort : ¬ 2 ≤ (s.raise .reclaimed).free := Nat.not_le.2 hfree
  unfold State.reclaimDone
  dsimp only
  rw [hkept]
  exact if_neg hshort

/-- Settles O26, by the requester of the update, by whether a save still waits in ROOM and by what the oldest entry allows. -/
theorem roomIsMade : Obligations.RoomIsMade := by
  refine ⟨?reclaim, ?unguard⟩
  case reclaim =>
    intro s r t a got data hreset hflight hwork hactive hrequester
    have hexec {u : State} (hu : (s.updateEnded a).reclaimDone = u) :
        exec (.memoryResponse (.okay data)) s = .next (u.finish s.claimWaits) := by
      refine exec_update_ends hreset hflight hwork hactive ?_
      rw [hrequester, requesterDone_reclaim, hu]
    refine ⟨fun hends => hexec (reclaimDone_ends (s := s.updateEnded a) hends), fun g n hsave hfree => ⟨?again, ?refused⟩⟩
    case again =>
      intro d ds hcons hbelow
      have hstep : (s.updateEnded a).reclaimDone = ((s.updateEnded a).raise .reclaimed).reclaimStep :=
        (reclaimDone_goes_on (s := s.updateEnded a) hsave hfree).trans
          (if_pos (canReclaim_of_cons (s := s.updateEnded a) hcons hbelow))
      exact ⟨_, _, hexec (hstep.trans (reclaimStep_of_cons (s := (s.updateEnded a).raise .reclaimed) hcons)),
        rfl, rfl, rfl, rfl, rfl, rfl, rfl, rfl, rfl, rfl, rfl, rfl, rfl, rfl, rfl, rfl⟩
    case refused =>
      intro hkept
      have hcan : ¬ (s.updateEnded a).canReclaim = true :=
        Bool.eq_false_iff.1 (canReclaim_of_kept (s := s.updateEnded a) hkept)
      have hstep : (s.updateEnded a).reclaimDone = ((s.updateEnded a).raise .reclaimed).unguardStep :=
        (reclaimDone_goes_on (s := s.updateEnded a) hsave hfree).trans (if_neg hcan)
      exact ⟨_, _, hexec (hstep.trans (unguardStep_eq _)), rfl, rfl, rfl, rfl, rfl, rfl, rfl, rfl, rfl,
        unguarding_openBroken s, rfl, rfl, rfl⟩
  case unguard =>
    intro s r t a got data hreset hflight hwork hactive hrequester
    have hexec {u : State} (hu : (s.updateEnded a).unguardDone = u) :
        exec (.memoryResponse (.okay data)) s = .next (u.finish s.claimWaits) := by
      refine exec_update_ends hreset hflight hwork hactive ?_
      rw [hrequester, requesterDone_unguard, hu]
    refine ⟨fun g n e rest hsave hqueue => ?_, fun hnone => hexec (unguardDone_of_not_room (s := s.updateEnded a) hnone)⟩
    exact hexec ((unguardDone_of_room (s := s.updateEnded a) hsave).trans
      (perform_of_queue (s := (s.updateEnded a).unguardEnded) hqueue true))

/-! ### Which records are valid (R50, R51, R187, R189) -/

theorem leNat_lt (bs : List Byte) : leNat bs < 256 ^ bs.length := by
  induction bs with
  | nil => exact Nat.one_pos
  | cons b bs ih =>
    have hb := b.isLt
    rw [leNat, List.length_cons, Nat.pow_succ]
    omega

/-- R187: the sequence field has 24 bits. -/
theorem stored_lt (bytes : List Byte) : leNat (fieldAt 3 3 bytes) < 16777216 :=
  (leNat_lt _).trans_le (Nat.pow_le_pow_right (n := 256) (by decide) (List.length_take_le 3 _))

/-- R189: the sequence read has the expected high bits before the bits stored. -/
theorem sequenceRead_toNat (q : Word) (bytes : List Byte) :
    (sequenceRead q bytes).toNat = 16777216 * (q.toNat / 16777216) + leNat (fieldAt 3 3 bytes) := by
  have hq := q.isLt
  have hstored := stored_lt bytes
  rw [sequenceRead, BitVec.toNat_ofNat]
  omega

/-- R189: a record's check code passes for the slot, with the sequence read. -/
def RecordPasses (slot : Nat) (q : Word) (bytes : List Byte) : Prop :=
  leWord (fieldAt 12 4 bytes) =
    recordCheck (fieldAt 0 3 bytes) (sequenceRead q bytes) (fieldAt 6 6 bytes) (fieldAt 16 32 bytes) slot

theorem recordPasses_iff (slot : Nat) (q : Word) (bytes : List Byte) : RecordPasses slot q bytes ↔
    leWord (fieldAt 12 4 bytes) = crc32
      (fieldAt 0 3 bytes ++ leBytes 4 (16777216 * (q.toNat / 16777216) + leNat (fieldAt 3 3 bytes)) ++ fieldAt 6 6 bytes ++
        fieldAt 16 32 bytes ++ leBytes 4 slot) := by
  rw [RecordPasses, recordCheck, sequenceRead_toNat]

/-- R187: the record that bytes spell, given its body. -/
def recordRead (q : Word) (bytes : List Byte) (b : RecordBody) : Record :=
  { format := leHalf (fieldAt 6 2 bytes), epoch := leWord (fieldAt 8 4 bytes), seq := sequenceRead q bytes, body := b }

theorem decodeRecord_of_passes {slot : Nat} {q : Word} {bytes : List Byte} (h : RecordPasses slot q bytes) :
    decodeRecord slot q bytes = (recordBodyOf bytes).map (recordRead q bytes) := if_pos h

theorem decodeRecord_of_not_passes {slot : Nat} {q : Word} {bytes : List Byte} (h : ¬ RecordPasses slot q bytes) :
    decodeRecord slot q bytes = none := if_neg h

theorem decodeRecord_some {slot : Nat} {q : Word} {bytes : List Byte} {r : Record} (h : decodeRecord slot q bytes = some r) :
    RecordPasses slot q bytes ∧ ∃ b, recordBodyOf bytes = some b ∧ r = recordRead q bytes b := by
  by_cases hpasses : RecordPasses slot q bytes
  · rw [decodeRecord_of_passes hpasses] at h
    obtain ⟨b, hb, rfl⟩ := Option.map_eq_some_iff.1 h
    exact ⟨hpasses, b, hb, rfl⟩
  · rw [decodeRecord_of_not_passes hpasses] at h
    contradiction

/-- R46: the kind code of a body that is known. -/
theorem kind_of_recordBody {bytes : List Byte} {b : RecordBody} (h : recordBodyOf bytes = some b) :
    leNat (fieldAt 0 3 bytes) / 2097152 = 1 ∨ leNat (fieldAt 0 3 bytes) / 2097152 = 2 := by
  by_contra! hneither
  obtain ⟨hone, htwo⟩ := hneither
  unfold recordBodyOf at h
  dsimp only at h
  rw [if_neg hone, if_neg htwo] at h
  contradiction

theorem recordBodyOf_preImage {bytes : List Byte} (h : leNat (fieldAt 0 3 bytes) / 2097152 = 1) :
    recordBodyOf bytes = some (.preImage (leNat (fieldAt 0 3 bytes) % 2097152) (fieldAt 16 32 bytes)) := if_pos h

theorem recordBodyOf_commit {bytes : List Byte} (h : leNat (fieldAt 0 3 bytes) / 2097152 = 2) :
    recordBodyOf bytes = some (.commit (commitInfoOf bytes)) := by
  have hone : leNat (fieldAt 0 3 bytes) / 2097152 ≠ 1 := by omega
  exact (if_neg hone).trans (if_pos h)

/-- R50: what a valid record's bytes hold. -/
theorem validRecord_bytes {slot : Nat} {f : Half} {q lo hi : Word} {bytes : List Byte} {r : Record}
    (h : validRecord slot f q lo hi bytes = some r) :
    RecordPasses slot q bytes ∧
      (leNat (fieldAt 0 3 bytes) / 2097152 = 1 ∨ leNat (fieldAt 0 3 bytes) / 2097152 = 2) ∧
      leHalf (fieldAt 6 2 bytes) = f ∧ leNat (fieldAt 3 3 bytes) = q.toNat % 16777216 ∧
      lo ≤ leWord (fieldAt 8 4 bytes) ∧ leWord (fieldAt 8 4 bytes) ≤ hi := by
  obtain ⟨hdecode, hformat, hseq, hlo, hhi⟩ := validRecord_some h
  obtain ⟨hpasses, b, hbody, rfl⟩ := decodeRecord_some hdecode
  exact ⟨hpasses, kind_of_recordBody hbody, hformat, (sequenceRead_eq_iff q bytes (stored_lt bytes)).1 hseq, hlo, hhi⟩

/-- R50: a record whose bytes hold what a valid record's hold is valid. -/
theorem validRecord_of_bytes {slot : Nat} {f : Half} {q lo hi : Word} {bytes : List Byte} {b : RecordBody}
    (hpasses : RecordPasses slot q bytes) (hbody : recordBodyOf bytes = some b) (hformat : leHalf (fieldAt 6 2 bytes) = f)
    (hstored : leNat (fieldAt 3 3 bytes) = q.toNat % 16777216) (hlo : lo ≤ leWord (fieldAt 8 4 bytes))
    (hhi : leWord (fieldAt 8 4 bytes) ≤ hi) : validRecord slot f q lo hi bytes =
      some { format := f, epoch := leWord (fieldAt 8 4 bytes), seq := q, body := b } := by
  have hseq := (sequenceRead_eq_iff q bytes (stored_lt bytes)).2 hstored
  rw [validRecord, decodeRecord_of_passes hpasses, hbody]
  subst hformat
  exact (if_pos ⟨rfl, hseq, hlo, hhi⟩).trans (by rw [recordRead, hseq])

/-! ### The scan (R140, R141) -/

theorem workDone_scan {s : State} {c : RecoveryCtx} {count slot : Nat} (hk : s.jc.state = .recovering c)
    (hstep : c.step = .scan count slot) (bytes : List Byte) : s.workDone .scan bytes = s.scanRecord c count slot bytes := by
  simp only [State.workDone, hk, hstep]

theorem preImageScanned_of_epoch {s : State} {e : OpenEpoch} (he : s.jc.epoch = some e) :
    s.preImageScanned = { s with jc.epoch := some { e with preImages := e.preImages + 1 } } := by
  rw [State.preImageScanned, he]
  rfl

section Scanned
variable {s : State} {c : RecoveryCtx} {e : OpenEpoch} {count slot : Nat} {bytes : List Byte} {x : Record} (he : s.jc.epoch = some e)
include he

theorem scanRecord_of_none
    (h : validRecord slot s.anchor.format (e.firstSeq + BitVec.ofNat 32 count) c.openNumber c.openNumber bytes = none) :
    s.scanRecord c count slot bytes = s.endScan c count slot := by
  simp only [State.scanRecord, he, Option.map_some, Option.getD_some, h]

theorem scanRecord_of_commit {i : CommitInfo}
    (h : validRecord slot s.anchor.format (e.firstSeq + BitVec.ofNat 32 count) c.openNumber c.openNumber bytes = some x)
    (hbody : x.body = .commit i) :
    s.scanRecord c count slot bytes = s.endScan { c with found := some i } (count + 1) (slotAfter s.capacity slot) := by
  simp only [State.scanRecord, he, Option.map_some, Option.getD_some, h, hbody]

theorem scanRecord_of_preImage {g : Nat} {p : List Byte}
    (h : validRecord slot s.anchor.format (e.firstSeq + BitVec.ofNat 32 count) c.openNumber c.openNumber bytes = some x)
    (hbody : x.body = .preImage g p) : s.scanRecord c count slot bytes =
      if s.capacity ≤ s.directoryPart + (count + 1) then
        s.preImageScanned.endScan c (count + 1) (slotAfter s.capacity slot)
      else State.scanRead (slotAfter s.capacity slot)
        { s.preImageScanned with
          jc.state := .recovering { c with step := .scan (count + 1) (slotAfter s.capacity slot) } } := by
  simp only [State.scanRecord, he, Option.map_some, Option.getD_some, h, hbody, State.preImageScanned]

theorem scanPointers_jc : (s.scanPointers count slot).jc =
    { s.jc with head := slot, nextSeq := e.firstSeq + BitVec.ofNat 32 count, occupancy := s.directoryPart + count } := by
  simp only [State.scanPointers, he, Option.map_some, Option.getD_some]

end Scanned

/-- Settles O33: what makes a record valid, what the last read of a scanned record is handed to, and what the scan does with it. -/
theorem theScanWalks : Obligations.TheScanWalks := by
  refine ⟨?valid, ?handed, ?scanned⟩
  case valid =>
    intro slot f q lo hi bytes stored kind epoch passes
    have hpasses : RecordPasses slot q bytes ↔ passes := recordPasses_iff slot q bytes
    have hnone (h : ∀ r, validRecord slot f q lo hi bytes ≠ some r) := Option.eq_none_iff_forall_ne_some.2 h
    refine ⟨fun hnot => hnone fun r hr => ?_, fun hone htwo => hnone fun r hr => ?_, fun hnot => hnone fun r hr => ?_,
      fun hnot => hnone fun r hr => ?_, fun hout => hnone fun r hr => ?_, fun hpass hformat hstored hlo hhi => ⟨fun hkind => ?_,
        fun hkind => ?_⟩⟩
    · obtain ⟨hpass, -⟩ := validRecord_bytes hr
      exact hnot (hpasses.1 hpass)
    · obtain ⟨-, hkind, -⟩ := validRecord_bytes hr
      exact hkind.elim hone htwo
    · obtain ⟨-, -, hformat, -⟩ := validRecord_bytes hr
      exact hnot hformat
    · obtain ⟨-, -, -, hstored, -⟩ := validRecord_bytes hr
      exact hnot hstored
    · obtain ⟨-, -, -, -, hlo, hhi⟩ := validRecord_bytes hr
      exact hout.elim (BitVec.not_lt.2 hlo) (BitVec.not_lt.2 hhi)
    · exact validRecord_of_bytes (hpasses.2 hpass) (recordBodyOf_preImage hkind) hformat hstored hlo hhi
    · exact validRecord_of_bytes (hpasses.2 hpass) (recordBodyOf_commit hkind) hformat hstored hlo hhi
  case handed =>
    intro s r t c count slot got data hreset hflight hwork hk hstep
    exact exec_okay_last hreset hflight hwork
      (workDone_scan (s := { s with port.inFlight := none, jc.work := none }) hk hstep _)
  case scanned =>
    intro s c e count slot bytes he
    refine ⟨fun x g p hvalid hbody => ⟨fun hroom => ?_, fun hfull => ?_⟩,
      fun hvalid => ⟨scanRecord_of_none he hvalid, scanPointers_jc he⟩,
      fun x i hvalid hbody => scanRecord_of_commit he hvalid hbody⟩
    · rw [scanRecord_of_preImage he hvalid hbody, preImageScanned_of_epoch he]
      exact if_neg (Nat.not_le.2 hroom)
    · rw [scanRecord_of_preImage he hvalid hbody, preImageScanned_of_epoch he]
      exact if_pos hfull

end Sys2Proof.Machine
end

section
/-! SUPPORT. A write given to the save unit: the tag test, the free test and ROOM (R17, R64, R65, R71), and the tag entries that the
granules of JOURNALED windows own (R20). -/

namespace Sys2Proof.Machine

/-! ### No room is being made when a head goes to the save unit (R58) -/

/-- R58: a guarded write waits while room is made for an earlier head. -/
theorem room_of_guardedWrite_save {s : State} (h : s.guardedWrite = .save) : s.jc.room = none := by
  unfold State.guardedWrite at h
  split at h
  · contradiction
  · simpa using ‹¬s.jc.room.isSome = true›

theorem unguardedWrite_ne_save (s : State) : s.unguardedWrite ≠ .save := by
  unfold State.unguardedWrite
  split <;> nofun

theorem room_of_journaledAction_save {s : State} {write marked : Bool} (h : s.journaledAction write marked = .save)
    (hname : s.name ≠ .discarding) : s.jc.room = none := by
  unfold State.journaledAction at h
  cases hk : s.jc.state with rw [hk] at h
  | opened =>
    cases write
    · contradiction
    · exact room_of_guardedWrite_save h
  | committing | rollingBack =>
    cases marked
    · contradiction
    · cases write
      · contradiction
      · exact room_of_guardedWrite_save h
  | unguarded =>
    cases write
    · contradiction
    · exact absurd h (unguardedWrite_ne_save s)
  | discarding => exact absurd (congrArg Ctl.name hk) hname
  | damaged => cases write <;> contradiction
  | anchorRead | unformatted | recovering | formatting | clearing => contradiction

theorem journaledAction_of_classAction_save {s : State} {e : Entry} (h : s.classAction e = .save) :
    s.journaledAction e.req.isWrite e.marked = .save := by
  unfold State.classAction at h
  cases hclass : classOf s.jbase s.jsize s.windows.committed e.req.granule with rw [hclass] at h
  | journaled => exact h
  | frozen => cases hwrite : e.req.isWrite <;> simp [hwrite] at h
  | journalRegion | plain => contradiction

theorem classAction_of_headAction_save {s : State} {e : Entry} (h : s.headAction e = .save) : s.classAction e = .save := by
  unfold State.headAction at h
  split at h
  · contradiction
  · split at h
    · contradiction
    · cases hname : s.name with rw [hname] at h
      | anchorRead => contradiction
      | committing =>
        dsimp only at h
        split at h
        · exact h
        · contradiction
      | _ => exact h

theorem room_of_headAction_save {s : State} {e : Entry} (h : s.headAction e = .save) (hname : s.name ≠ .discarding) :
    s.jc.room = none :=
  room_of_journaledAction_save (journaledAction_of_classAction_save (classAction_of_headAction_save h)) hname

/-! ### What the save unit does with the write (R17, R64, R65, R71) -/

theorem headStep_of_save {s : State} {e : Entry} {rest : List Entry} (hqueue : s.front.queue = e :: rest)
    (hprogress : s.inProgress = false) (hsave : s.save = .idle) (hhalt : s.lines.halt = false) (h : s.headAction e = .save) :
    s.headStep = some (s.beginSave e) := by
  have hexamined : s.headStep = s.act (s.headAction e) e := by
    unfold State.headStep
    rw [hprogress, hqueue, hhalt, hsave]
    rfl
  rw [hexamined, h, State.act]

/-- R64: the granule is saved already. -/
theorem beginSave_of_saved {s : State} {e : Entry}
    (h : s.tags.store.read (tagEntry s.windows.committed e.req.granule) = s.openGeneration) : s.beginSave e = s.perform true :=
  if_pos h

/-- R65: the granule is not saved, and the free test passes. -/
theorem beginSave_of_free {s : State} {e : Entry}
    (h : s.tags.store.read (tagEntry s.windows.committed e.req.granule) ≠ s.openGeneration) (hfree : 2 ≤ s.free) :
    s.beginSave e = s.claimSaveRead e.req.granule (tagEntry s.windows.committed e.req.granule) :=
  (if_neg h).trans (if_pos hfree)

/-- R65: the granule is not saved, and the free test fails. -/
theorem beginSave_of_full {s : State} {e : Entry}
    (h : s.tags.store.read (tagEntry s.windows.committed e.req.granule) ≠ s.openGeneration) (hfree : s.free < 2) :
    s.beginSave e =
      ((s.enterRoom e.req.granule (tagEntry s.windows.committed e.req.granule)).roomStep e.req.granule
        (tagEntry s.windows.committed e.req.granule)).getD
      (s.enterRoom e.req.granule (tagEntry s.windows.committed e.req.granule)) :=
  (if_neg h).trans (if_neg (Nat.not_le.2 hfree))

/-- R17: the wait in ROOM starts the hold timer with the limit in force, unless the timer runs or the limit is 0. -/
theorem enterRoom_eq (g n : Nat) (s : State) : s.enterRoom g n =
    { s with
      front.holdReason := some .room
      front.holdTimer :=
        if s.front.holdTimer = none ∧ s.link.policies.holdLimit ≠ 0 then some s.link.policies.holdLimit
        else s.front.holdTimer
      save := .room g n } := by
  simp [State.enterRoom, State.beginWait]

/-- R65: in DISCARDING a save enters ROOM and asks for nothing. -/
theorem roomStep_enterRoom_of_discarding {s : State} (hname : s.name = .discarding) (g n : Nat) :
    (s.enterRoom g n).roomStep g n = none :=
  (roomStep_by_name _ g n).2.1 hname

/-- R65: but for DISCARDING the save that enters ROOM asks for room at once. -/
theorem roomStep_enterRoom_asks {s : State} {e : Entry} (haction : s.headAction e = .save) (hname : s.name ≠ .discarding)
    (hfree : s.free < 2) (g n : Nat) : (s.enterRoom g n).roomStep g n = some (s.enterRoom g n).askRoom := by
  have hsaves : s.name = .opened ∨ s.name = .committing ∨ s.name = .rollingBack := by
    obtain hopened | hdiscarding | ⟨hname', -⟩ := headAction_save haction
    · exact Or.inl hopened
    · contradiction
    · exact Or.inr hname'
  exact roomStep_asks (s := s.enterRoom g n) hsaves (room_of_headAction_save haction hname) hfree g n

theorem beginSave_of_discarding {s : State} {e : Entry}
    (h : s.tags.store.read (tagEntry s.windows.committed e.req.granule) ≠ s.openGeneration) (hfree : s.free < 2)
    (hname : s.name = .discarding) :
    s.beginSave e = s.enterRoom e.req.granule (tagEntry s.windows.committed e.req.granule) := by
  rw [beginSave_of_full h hfree, roomStep_enterRoom_of_discarding hname, Option.getD_none]

theorem beginSave_asks {s : State} {e : Entry}
    (h : s.tags.store.read (tagEntry s.windows.committed e.req.granule) ≠ s.openGeneration) (hfree : s.free < 2)
    (haction : s.headAction e = .save) (hname : s.name ≠ .discarding) :
    s.beginSave e = (s.enterRoom e.req.granule (tagEntry s.windows.committed e.req.granule)).askRoom := by
  rw [beginSave_of_full h hfree, roomStep_enterRoom_asks haction hname hfree, Option.getD_some]

/-- R55: asking for room leaves the head, its save, the tags and the memory port as they were. -/
theorem askRoom_leaves (s : State) :
    s.askRoom.front = s.front ∧ s.askRoom.save = s.save ∧ s.askRoom.tags = s.tags ∧ s.askRoom.port = s.port := by
  unfold State.askRoom
  split
  · simp [State.reclaimStep]
  · simp [unguardStep_eq, State.unguarding]

/-! ### Tag entries (R20) -/

/-- R20: a granule held by the JOURNALED window of a slot. -/
structure Journals (table : WindowTable) (i : Nat) (w : Window) (g : Nat) : Prop where
  slot : table[i]? = some (some w)
  mode : w.mode = .journaled
  above : w.base ≤ g
  below : g < w.base + w.length

/-- R22: the windows of different slots share no granule. -/
def WindowsApart (table : WindowTable) : Prop :=
  ∀ (m n : Nat) (x y : Window), m ≠ n → table[m]? = some (some x) → table[n]? = some (some y) →
    x.base + x.length ≤ y.base ∨ y.base + y.length ≤ x.base

theorem WindowsApart.sole {table : WindowTable} {i j g : Nat} {v w : Window} (h : WindowsApart table)
    (hw : Journals table i w g) (hne : j ≠ i) : ¬ Journals table j v g := by
  intro hv
  have hbelow := hw.below
  have habove := hw.above
  have hbelow' := hv.below
  have habove' := hv.above
  have hapart := h j i v w hne hv.slot hw.slot
  omega

theorem tagEntry_eq {table : WindowTable} {i g : Nat} {w : Window} (h : Journals table i w g)
    (hsole : ∀ j v, j ≠ i → ¬ Journals table j v g) : tagEntry table g = tagBase table i + (g - w.base) := by
  have hother : ∀ j v, j < i → table[j]? = some (some v) → v.mode = .journaled → v.holds g = false := by
    intro j v hlt hslot hmode
    refine Bool.eq_false_iff.2 fun hholds => hsole j v (Nat.ne_of_lt hlt) ?_
    obtain ⟨habove, hbelow⟩ := (v.holds_iff g).1 hholds
    exact ⟨hslot, hmode, habove, hbelow⟩
  have hentry := tagEntryFrom_eq table 0 i g w h.slot h.mode ((w.holds_iff g).2 ⟨h.above, h.below⟩) hother
  rwa [Nat.zero_add] at hentry

/-- R20: a slot's tag entries end before any later slot's tag base, the table's end included. -/
theorem tagEntry_lt_tagBase {table : WindowTable} {i j g : Nat} {w : Window} (h : Journals table i w g)
    (hsole : ∀ j v, j ≠ i → ¬ Journals table j v g) (hlt : i < j) : tagEntry table g < tagBase table j := by
  have hbase : tagBase table i + w.length ≤ tagBase table j := journaledLength_take_le table i j w h.slot h.mode hlt
  have habove := h.above
  have hbelow := h.below
  rw [tagEntry_eq h hsole]
  omega

theorem tagEntry_lt_journaledLength {table : WindowTable} {i g : Nat} {w : Window} (h : Journals table i w g)
    (hsole : ∀ j v, j ≠ i → ¬ Journals table j v g) : tagEntry table g < journaledLength table := by
  obtain ⟨hlt, -⟩ := List.getElem?_eq_some_iff.1 h.slot
  simpa [tagBase] using tagEntry_lt_tagBase h hsole hlt

/-- R20: where windows share no granule, tag entries are in the order of the slots. -/
theorem WindowsApart.tagEntry_lt {table : WindowTable} {i j g h : Nat} {v w : Window} (hapart : WindowsApart table)
    (hg : Journals table i v g) (hh : Journals table j w h) (hlt : i < j) : tagEntry table g < tagEntry table h :=
  calc tagEntry table g < tagBase table j := tagEntry_lt_tagBase hg (fun _ _ => hapart.sole hg) hlt
    _ ≤ tagBase table j + (h - w.base) := Nat.le_add_right _ _
    _ = tagEntry table h := (tagEntry_eq hh fun _ _ => hapart.sole hh).symm

/-- R20: where windows share no granule, two granules of one JOURNALED window have two tag entries. -/
theorem WindowsApart.tagEntry_inj_slot {table : WindowTable} {i g h : Nat} {v : Window} (hapart : WindowsApart table)
    (hg : Journals table i v g) (hh : Journals table i v h) (heq : tagEntry table g = tagEntry table h) : g = h := by
  rw [tagEntry_eq hg fun _ _ => hapart.sole hg, tagEntry_eq hh fun _ _ => hapart.sole hh] at heq
  have habove := hg.above
  have habove' := hh.above
  omega

theorem WindowsApart.tagEntry_inj {table : WindowTable} {i j g h : Nat} {v w : Window} (hapart : WindowsApart table)
    (hg : Journals table i v g) (hh : Journals table j w h) (heq : tagEntry table g = tagEntry table h) : g = h := by
  obtain hlt | rfl | hlt := Nat.lt_trichotomy i j
  · exact absurd heq (hapart.tagEntry_lt hg hh hlt).ne
  · obtain rfl : v = w := by simpa using hg.slot.symm.trans hh.slot
    exact hapart.tagEntry_inj_slot hg hh heq
  · exact absurd heq (hapart.tagEntry_lt hh hg hlt).ne'

/-- Settles O11: the three outcomes of the tag test and the free test, the third by whether the controller is in DISCARDING; and the
tag entries by the slots of the two granules. -/
theorem aWriteGoesToTheSaveUnit : Obligations.AWriteGoesToTheSaveUnit := by
  refine ⟨?save, ?entry, ?distinct⟩
  case save =>
    intro s e rest hqueue hprogress hsave hhalt haction entered
    have hentered : s.enterRoom e.req.granule (tagEntry s.windows.committed e.req.granule) = entered := enterRoom_eq _ _ s
    have hstep := headStep_of_save hqueue hprogress hsave hhalt haction
    refine ⟨_, hstep, ?_⟩
    by_cases hsaved : s.tags.store.read (tagEntry s.windows.committed e.req.granule) = s.openGeneration
    · rw [beginSave_of_saved hsaved, perform_of_queue hqueue]
      exact ⟨rfl, rfl, fun _ => ⟨rfl, rfl, rfl, rfl, rfl⟩, absurd hsaved, absurd hsaved⟩
    obtain hfree | hshort := le_or_gt 2 s.free
    · rw [beginSave_of_free hsaved hfree]
      exact ⟨rfl, rfl, (absurd · hsaved), fun _ _ => ⟨rfl, rfl, rfl, rfl, rfl⟩,
        fun _ hshort => absurd hfree (Nat.not_le.2 hshort)⟩
    by_cases hname : s.name = .discarding
    · rw [beginSave_of_discarding hsaved hshort hname, hentered]
      exact ⟨rfl, rfl, (absurd · hsaved), fun _ hfree => absurd hshort (Nat.not_lt.2 hfree),
        fun _ _ => ⟨rfl, rfl, rfl, fun _ => rfl, absurd hname⟩⟩
    · have hasks := roomStep_enterRoom_asks haction hname hshort e.req.granule (tagEntry s.windows.committed e.req.granule)
      rw [hentered] at hasks
      rw [beginSave_asks hsaved hshort haction hname, hentered]
      obtain ⟨hfront, hkept, htags, hport⟩ := askRoom_leaves entered
      exact ⟨(congrArg FrontPort.queue hfront).trans rfl, htags, (absurd · hsaved),
        fun _ hfree => absurd hshort (Nat.not_lt.2 hfree),
        fun _ _ => ⟨hport, hkept, hfront, (absurd · hname), fun _ => hasks⟩⟩
  case entry =>
    intro table i g w hslot hmode habove hbelow hother
    have hw : Journals table i w g := ⟨hslot, hmode, habove, hbelow⟩
    have hsole : ∀ j v, j ≠ i → ¬ Journals table j v g := fun j v hne hv =>
      hother j v hne hv.slot hv.mode ⟨hv.above, hv.below⟩
    exact ⟨tagEntry_eq hw hsole, tagEntry_lt_journaledLength hw hsole⟩
  case distinct =>
    intro table i j g h v w hapart hv hvmode hvabove hvbelow hw hwmode hwabove hwbelow
    exact WindowsApart.tagEntry_inj hapart ⟨hv, hvmode, hvabove, hvbelow⟩ ⟨hw, hwmode, hwabove, hwbelow⟩

end Sys2Proof.Machine
end

section
/-! SUPPORT. The commands of a long operation: the result each answers, in the order of its rule, and what an accepted COMMIT or
ROLLBACK takes (R77, R82, R106, R109, R113, R115, R119, R181). -/

namespace Sys2Proof.Machine

/-! ### A refused command answers, an accepted one is taken -/

theorem longCommand_refused {r : Result} (h : r ≠ .accepted) (op : LongOp) (take : State → State) (s : State) :
    s.longCommand r op take = s.answer r [] := if_neg h

theorem longCommand_accepted {r : Result} (h : r = .accepted) (op : LongOp) (take : State → State) (s : State) :
    s.longCommand r op take = (take (s.accept op)).finish s.claimWaits := if_pos h

section Commands

variable {s : State} {r : Result} (hready : s.linkReady = true)
include hready

/-- A command of a long operation whose result is r, in a frame that is where a command executes, answers r and does nothing else. -/
theorem linkCommand_refused {run : State → State} {op : LongOp} {take : State → State} (hrun : run s = s.longCommand r op take)
    (hne : r ≠ .accepted) : Host.Outcome.next (s.linkCommand run) = (.next (s.answer r []) : Host.Outcome State Fault Refusal) :=
  congrArg Host.Outcome.next ((linkCommand_of_ready hready run).trans (hrun.trans (longCommand_refused hne op take s)))

theorem exec_commit_refused (hr : s.commitResult = r) (hne : r ≠ .accepted) : exec .commit s = .next (s.answer r []) :=
  linkCommand_refused hready (congrArg (fun x => s.longCommand x .commit _) hr) hne

theorem exec_rollback_refused {c : Word} (hr : s.rollbackResult c = r) (hne : r ≠ .accepted) :
    exec (.rollback c) s = .next (s.answer r []) :=
  linkCommand_refused hready (congrArg (fun x => s.longCommand x .rollback _) hr) hne

theorem exec_discard_refused {e : Word} (hr : s.discardResult e = r) (hne : r ≠ .accepted) :
    exec (.discard e) s = .next (s.answer r []) :=
  linkCommand_refused hready (congrArg (fun x => s.longCommand x .discard _) hr) hne

theorem exec_format_refused (hr : s.formatResult = r) (hne : r ≠ .accepted) : exec .format s = .next (s.answer r []) :=
  linkCommand_refused hready (congrArg (fun x => s.longCommand x .format _) hr) hne

theorem exec_clearDamage_refused (hr : s.clearDamageResult = r) (hne : r ≠ .accepted) :
    exec .clearDamage s = .next (s.answer r []) :=
  linkCommand_refused hready (congrArg (fun x => s.longCommand x .clearDamage _) hr) hne

theorem exec_commit_accepted (hr : s.commitResult = .accepted) :
    exec .commit s = .next (((s.accept .commit).takeCommit true).finish s.claimWaits) :=
  congrArg Host.Outcome.next ((linkCommand_of_ready hready _).trans (longCommand_accepted hr _ _ s))

theorem exec_rollback_accepted {c : Word} (hr : s.rollbackResult c = .accepted) :
    exec (.rollback c) s = .next (((s.accept .rollback).takeRollback c .command).finish s.claimWaits) :=
  congrArg Host.Outcome.next ((linkCommand_of_ready hready _).trans (longCommand_accepted hr _ _ s))

end Commands

/-! ### The tests the rules share -/

/-- R26: the controller reads its anchor or carries out an operation. -/
def CtlName.Busy (n : CtlName) : Prop :=
  n = .anchorRead ∨ n = .recovering ∨ n = .committing ∨ n = .rollingBack ∨ n = .discarding ∨ n = .formatting ∨ n = .clearing

/-- R77, R106: where a long operation may begin, but for a halt. -/
theorem atRest_iff (s : State) : s.AtRest ↔ s.name = .opened ∧ s.mark = false ∨ s.name = .unguarded := by
  unfold State.AtRest State.mark State.name
  cases s.jc.state <;> simp [Ctl.name]

theorem notOpen_iff (s : State) : s.notOpen = true ↔ s.name = .unformatted ∨ s.name = .damaged := by
  simp [State.notOpen]

theorem longBusy_iff (s : State) : s.longBusy = true ↔ s.name.Busy ∨ s.name = .opened ∧ s.mark = true := by
  unfold State.longBusy CtlName.Busy
  cases s.name <;> simp

/-- The answers NOT_OPEN and BUSY exclude each other. -/
theorem longBusy_of_notOpen {s : State} (h : s.notOpen = true) : s.longBusy = false := by
  unfold State.longBusy
  rcases (notOpen_iff s).1 h with hname | hname <;> rw [hname]

theorem notOpen_of_longBusy {s : State} (h : s.longBusy = true) : s.notOpen = false := by
  by_contra hopen
  rw [longBusy_of_notOpen (Bool.not_eq_false _ ▸ hopen)] at h
  contradiction

theorem State.AtRest.notOpen {s : State} (h : s.AtRest) : s.notOpen = false := by
  unfold State.notOpen
  rcases (atRest_iff s).1 h with ⟨hname, -⟩ | hname <;> rw [hname] <;> rfl

theorem State.AtRest.longBusy {s : State} (h : s.AtRest) : s.longBusy = false := by
  unfold State.longBusy
  rcases (atRest_iff s).1 h with ⟨hname, hmark⟩ | hname <;> rw [hname]
  exact hmark

theorem listed_iff {s : State} {e : OpenEpoch} (he : s.jc.epoch = some e) (c : Word) :
    s.listed c = true ↔ e.number = c ∨ ∃ d ∈ s.jc.directory, d.number = c := by
  simp [State.listed, he]

theorem brokenFrom_iff (s : State) (c : Word) :
    s.brokenFrom c = true ↔ ∃ d ∈ s.jc.directory, c ≤ d.number ∧ d.broken = true := by
  simp [State.brokenFrom]

theorem brokenFrom_eq_false {s : State} {c : Word} (h : ∀ d ∈ s.jc.directory, c ≤ d.number → d.broken = false) :
    s.brokenFrom c = false := by
  simpa [State.brokenFrom] using h

theorem discardSet_eq_nil {s : State} {e : Word} (h : ∀ d ∈ s.jc.directory, e < d.number) : s.discardSet e = [] := by
  simpa [State.discardSet] using h

theorem damageCause_eq_iff (s : State) (c : Cause) : s.damageCause = some c ↔ s.jc.state = .damaged c := by
  unfold State.damageCause
  cases s.jc.state <;> simp

/-! ### The results, by the first test that applies -/

theorem commitResult_notOpen {s : State} (h : s.notOpen = true) : s.commitResult = .notOpen := if_pos h

theorem rollbackResult_notOpen {s : State} (h : s.notOpen = true) (c : Word) : s.rollbackResult c = .notOpen := if_pos h

theorem discardResult_notOpen {s : State} (h : s.notOpen = true) (e : Word) : s.discardResult e = .notOpen := if_pos h

theorem commitResult_busy {s : State} (h : s.longBusy = true) : s.commitResult = .busy := by
  simp [State.commitResult, notOpen_of_longBusy h, h]

theorem rollbackResult_busy {s : State} (h : s.longBusy = true) (c : Word) : s.rollbackResult c = .busy := by
  simp [State.rollbackResult, notOpen_of_longBusy h, h]

theorem discardResult_busy {s : State} (h : s.longBusy = true) (e : Word) : s.discardResult e = .busy := by
  simp [State.discardResult, notOpen_of_longBusy h, h]

theorem formatResult_busy {s : State} (h : s.longBusy = true) : s.formatResult = .busy := if_pos h

/-- R77: where a commit could begin, only a halt refuses it. -/
theorem commitResult_of_atRest {s : State} (h : s.AtRest) : s.commitResult = if s.lines.halt then .halted else .accepted := by
  simp [State.commitResult, h.notOpen, h.longBusy]

/-- R106: where a discard could begin, a halt refuses it before an empty discard set. -/
theorem discardResult_of_atRest {s : State} (h : s.AtRest) (e : Word) :
    s.discardResult e = if s.lines.halt then .halted else if (s.discardSet e).isEmpty then .noSuch else .accepted := by
  simp [State.discardResult, h.notOpen, h.longBusy]

/-- R109: where a format could begin, only a halt refuses it. -/
theorem formatResult_of_not_busy {s : State} (h : s.longBusy = false) :
    s.formatResult = if s.lines.halt then .halted else .accepted := by
  simp [State.formatResult, h]

/-- R115 (3). -/
theorem rollbackResult_of_unguarded {s : State} (h : s.name = .unguarded) (c : Word) : s.rollbackResult c = .notSafe := by
  have hrest : s.AtRest := (atRest_iff s).2 (Or.inr h)
  simp [State.rollbackResult, hrest.notOpen, hrest.longBusy, h]

/-- R115 (4 to 6): in OPEN the target must be listed, then safe, and then a halt refuses. -/
theorem rollbackResult_of_opened {s : State} (hname : s.name = .opened) (hmark : s.mark = false) (c : Word) :
    s.rollbackResult c =
      if !s.listed c then .noSuch else if s.brokenFrom c then .notSafe else if s.lines.halt then .halted else .accepted := by
  have hrest : s.AtRest := (atRest_iff s).2 (Or.inl ⟨hname, hmark⟩)
  simp [State.rollbackResult, hrest.notOpen, hrest.longBusy, hname]

theorem clearDamageResult_busy {s : State} (h : s.name.Busy) : s.clearDamageResult = .busy := by
  unfold State.clearDamageResult
  rcases h with h | h | h | h | h | h | h <;> rw [h]

/-- R113: with a damage cause that a clearing can take away, only a halt refuses it. -/
theorem clearDamageResult_of_damaged {s : State} (hname : s.name = .damaged) (hcause : s.jc.state ≠ .damaged .exhausted) :
    s.clearDamageResult = if s.lines.halt then .halted else .accepted := by
  simp [State.clearDamageResult, hname, damageCause_eq_iff, hcause]

theorem clearDamageResult_notOpen {s : State} (h : s.name = .unformatted ∨ s.name = .opened ∨ s.name = .unguarded ∨
    s.jc.state = .damaged .exhausted) : s.clearDamageResult = .notOpen := by
  unfold State.clearDamageResult
  rcases h with h | h | h | hexhausted
  · rw [h]
  · rw [h]
  · rw [h]
  · have hname : s.name = .damaged := congrArg Ctl.name hexhausted
    simp [hname, (damageCause_eq_iff s _).2 hexhausted]

/-- Settles O16: each command answers its result's first test that applies, and an answer changes the frame alone. -/
theorem longCommandsAreRefusedInOrder : Obligations.LongCommandsAreRefusedInOrder := by
  intro s hready frame busy
  refine ⟨?notOpen, ?busy, fun h => ?_, fun h => ?_, fun h c => ?_, fun hname hmark c hlist => ?_,
    fun hname hmark c hlist hbroken => ?_, fun hname hmark c hlist hsafe hhalt => ?_, ?halted,
    fun hfree hhalt e hnone => ?_, fun h hhalt => ?_, fun hname hcause hhalt => ?_⟩
  case notOpen =>
    intro h
    have hopen := (notOpen_iff s).2 h
    exact ⟨exec_commit_refused hready (commitResult_notOpen hopen) nofun,
      fun c => exec_rollback_refused hready (rollbackResult_notOpen hopen c) nofun,
      fun e => exec_discard_refused hready (discardResult_notOpen hopen e) nofun⟩
  case busy =>
    intro h
    have hbusy := (longBusy_iff s).2 h
    exact ⟨exec_commit_refused hready (commitResult_busy hbusy) nofun,
      fun c => exec_rollback_refused hready (rollbackResult_busy hbusy c) nofun,
      fun e => exec_discard_refused hready (discardResult_busy hbusy e) nofun,
      exec_format_refused hready (formatResult_busy hbusy) nofun⟩
  · exact exec_clearDamage_refused hready (clearDamageResult_busy h) nofun
  · exact exec_clearDamage_refused hready (clearDamageResult_notOpen h) nofun
  · exact exec_rollback_refused hready (rollbackResult_of_unguarded h c) nofun
  · refine exec_rollback_refused hready ?_ nofun
    simp [rollbackResult_of_opened hname hmark, hlist]
  · refine exec_rollback_refused hready ?_ nofun
    simp [rollbackResult_of_opened hname hmark, hlist, (brokenFrom_iff s c).2 hbroken]
  · refine exec_rollback_refused hready ?_ nofun
    simp [rollbackResult_of_opened hname hmark, hlist, brokenFrom_eq_false hsafe, hhalt]
  case halted =>
    intro hfree hhalt
    have hrest := (atRest_iff s).2 hfree
    exact ⟨exec_commit_refused hready ((commitResult_of_atRest hrest).trans (if_pos hhalt)) nofun,
      fun e => exec_discard_refused hready ((discardResult_of_atRest hrest e).trans (if_pos hhalt)) nofun,
      exec_format_refused hready ((formatResult_of_not_busy hrest.longBusy).trans (if_pos hhalt)) nofun⟩
  · refine exec_discard_refused hready ?_ nofun
    simp [discardResult_of_atRest ((atRest_iff s).2 hfree), hhalt, discardSet_eq_nil hnone]
  · have hidle := longBusy_of_notOpen ((notOpen_iff s).2 h)
    exact exec_format_refused hready ((formatResult_of_not_busy hidle).trans (if_pos hhalt)) nofun
  · exact exec_clearDamage_refused hready ((clearDamageResult_of_damaged hname hcause).trans (if_pos hhalt)) nofun

/-! ### What is taken -/

/-- R119: the rollback's context holds the open epoch's number. -/
theorem takeRollback_of_epoch {s : State} {e : OpenEpoch} (he : s.jc.epoch = some e) (c : Word) (cause : ReportCause) :
    s.takeRollback c cause =
      { s with
        jc.state := .rollingBack { target := c, openNumber := e.number, cause := cause, start := s.stamp, step := .drain }
        jc.timer := .idle
        front.queue := markAll s.front.queue } := by
  rw [State.takeRollback, openNumber_of_epoch he]

/-- Settles O17: no test of its rule refuses the command, and what it takes is `takeCommit` or `takeRollback` of the state with the
command's frame answered ACCEPTED. -/
theorem commitAndRollbackAreTaken : Obligations.CommitAndRollbackAreTaken := by
  refine ⟨fun s hready hfree hhalt => ?commit, fun s c e hready hname hmark hhalt hepoch hlisted hsafe => ?rollback⟩
  case commit =>
    have hresult : s.commitResult = .accepted := by simp [commitResult_of_atRest ((atRest_iff s).2 hfree), hhalt]
    exact exec_commit_accepted hready hresult
  case rollback =>
    have hresult : s.rollbackResult c = .accepted := by
      simp [rollbackResult_of_opened hname hmark, (listed_iff hepoch c).2 hlisted, brokenFrom_eq_false hsafe, hhalt]
    rw [exec_rollback_accepted hready hresult, takeRollback_of_epoch (s := s.accept .rollback) hepoch]
    rfl

end Sys2Proof.Machine
end

section
/-! SUPPORT. The steps of a commit: its record built, closed into the directory with the drops, or given up, and its completion (R83
to R89, R93). -/

namespace Sys2Proof.Machine

/-! ### The COMMIT record is built (R83, R84) -/

theorem noneMarked_iff (s : State) : s.noneMarked = true ↔ ∀ q ∈ s.front.queue, q.marked = false := by
  simp [State.noneMarked]

/-- R84: the transfer of epoch e's COMMIT record with the fields i, to the slot at head. -/
def State.commitRecordWork (e : OpenEpoch) (i : CommitInfo) (s : State) : Work :=
  { owner := .commitRecord
    todo := recordWrites s.base s.jc.head
      (Record.encode s.jc.head { format := s.anchor.format, epoch := e.number, seq := s.jc.nextSeq, body := .commit i })
    got := [] }

theorem writeCommitRecord_of_epoch {s : State} {e : OpenEpoch} (he : s.jc.epoch = some e) (i : CommitInfo) :
    s.writeCommitRecord i = { s with jc.work := some (s.commitRecordWork e i) } := by
  rw [State.writeCommitRecord, openNumber_of_epoch he]
  rfl

/-- R83: the commit goes on to its record with the fields i. -/
def State.recordBuilt (c : CommitCtx) (i : CommitInfo) (s : State) : State :=
  { s with jc.state := .committing { c with step := .record i } }

/-- R83, log 19: the record's fields are fixed at once, its writes wait for the update of a reclaim or unguard. -/
theorem beginCommitRecord_of_epoch {s : State} {e : OpenEpoch} {c : CommitCtx} {i : CommitInfo} (he : s.jc.epoch = some e)
    (hi : commitInfo e s.stamp c.copy.differs = i) : s.beginCommitRecord c =
      { s.recordBuilt c i with jc.work := if s.jc.room = none then some (s.commitRecordWork e i) else s.jc.work } := by
  subst hi
  unfold State.beginCommitRecord
  rw [he]
  dsimp only
  by_cases hroom : s.jc.room = none
  · rw [if_pos hroom, if_pos (Option.isNone_iff_eq_none.2 hroom)]
    exact writeCommitRecord_of_epoch (s := s.recordBuilt c _) he _
  · rw [if_neg hroom, if_neg (mt Option.isNone_iff_eq_none.1 hroom)]
    rfl

section Steps

variable {s : State} {c : CommitCtx} {e : OpenEpoch} (he : s.jc.epoch = some e)
include he

theorem commitStep_drain (hstep : c.step = .drain) :
    s.commitStep c = if s.noneMarked then some (s.beginCommitRecord c) else none := by
  simp [State.commitStep, hstep, he]

/-- Log 19: the writes that waited are made when neither an update nor a transfer is under way. -/
theorem commitStep_record {i : CommitInfo} (hstep : c.step = .record i) : s.commitStep c =
    if s.jc.room = none ∧ s.jc.work = none then some { s with jc.work := some (s.commitRecordWork e i) } else none := by
  simp [State.commitStep, hstep, writeCommitRecord_of_epoch he]

end Steps

/-! ### The directory steps (R87 to R89) -/

/-- R53: the ring without its oldest entry x. -/
def State.withoutOldest (x : DirEntry) (xs : List DirEntry) (s : State) : State :=
  { s with
    jc.directory := xs
    jc.tail := (s.jc.tail + x.slots) % s.capacity
    jc.occupancy := s.jc.occupancy - x.slots }

theorem dropOldest_of_cons {s : State} {x : DirEntry} {xs : List DirEntry} (h : s.jc.directory = x :: xs) :
    s.dropOldest = s.withoutOldest x xs := by
  rw [State.dropOldest, h]
  rfl

theorem capacity_pos (s : State) : 0 < s.capacity := ringCapacity_pos s.jsize

theorem free_eq_zero_iff (s : State) : s.free = 0 ↔ s.capacity ≤ s.jc.occupancy := Nat.sub_eq_zero_iff_le

/-- R89: an entry of at least one slot that is dropped from a ring within its capacity leaves a slot free. -/
theorem withoutOldest_free {s : State} {x : DirEntry} (xs : List DirEntry) (hslots : 1 ≤ x.slots)
    (hfits : s.jc.occupancy ≤ s.capacity) : 1 ≤ (s.withoutOldest x xs).free := by
  have hpos := capacity_pos s
  show 1 ≤ s.capacity - (s.jc.occupancy - x.slots)
  omega

theorem forcedDrop_of_free {s : State} (h : 1 ≤ s.free) : s.forcedDrop = s := if_neg (by omega)

/-- R87: with fewer than 15 entries listed and a slot free the entry is appended and nothing is dropped. -/
theorem closeEpoch_appends {s : State} (d : DirEntry) (hlisted : s.jc.directory.length < 15)
    (hfree : s.jc.occupancy < s.capacity) : s.closeEpoch d = s.appendEntry d ∧ s.closeDrops d = false := by
  have hshort : ¬ 15 < (s.appendEntry d).jc.directory.length := by simp [State.appendEntry]; omega
  have hover : (s.appendEntry d).overflowDrop = s.appendEntry d := if_neg hshort
  have hroom : 1 ≤ (s.appendEntry d).free := Nat.sub_pos_of_lt hfree
  constructor
  · rw [State.closeEpoch, hover, forcedDrop_of_free hroom]
  · simp only [State.closeDrops, hover, hshort, decide_false, Bool.false_or, decide_eq_false_iff_not]
    omega

/-- R88, R89: with 15 entries listed, or no slot free, exactly one entry is dropped, the oldest: as the 16th entry's overflow, after
which a slot is free, or else to free a slot. -/
theorem closeEpoch_drops {s : State} {d x : DirEntry} {xs : List DirEntry} (hcons : s.jc.directory ++ [d] = x :: xs)
    (hslots : 1 ≤ x.slots) (hlisted : s.jc.directory.length ≤ 15) (hfits : s.jc.occupancy ≤ s.capacity)
    (hfull : s.jc.directory.length = 15 ∨ s.jc.occupancy = s.capacity) :
    s.closeEpoch d = s.withoutOldest x xs ∧ s.closeDrops d = true := by
  have hlength : (s.appendEntry d).jc.directory.length = s.jc.directory.length + 1 := by simp [State.appendEntry]
  have hdrop : (s.appendEntry d).dropOldest = s.withoutOldest x xs := dropOldest_of_cons (s := s.appendEntry d) hcons
  by_cases hover : 15 < (s.appendEntry d).jc.directory.length
  · have hoverflow : (s.appendEntry d).overflowDrop = s.withoutOldest x xs := (if_pos hover).trans hdrop
    constructor
    · rw [State.closeEpoch, hoverflow, forcedDrop_of_free (withoutOldest_free xs hslots hfits)]
    · simp [State.closeDrops, hover]
  · have hoverflow : (s.appendEntry d).overflowDrop = s.appendEntry d := if_neg hover
    have hused : s.jc.occupancy = s.capacity := hfull.resolve_left (by omega)
    have hnone : (s.appendEntry d).free = 0 := (free_eq_zero_iff _).2 hused.ge
    constructor
    · rw [State.closeEpoch, hoverflow]
      exact (if_pos hnone).trans hdrop
    · simp [State.closeDrops, hoverflow, hnone]

/-! ### The COMMIT record is live (R85, R87, R90) -/

/-- R90: the commit waits for the tags, behind a full clear when the windows change. -/
def State.toTagWait (c : CommitCtx) (dropped : Bool) (s : State) : State :=
  { s with
    jc.state := .committing { c with dropped := dropped, step := .tagWait }
    tags.activity := if c.copy.differs then .fullClear else s.tags.activity
    tags.done := if c.copy.differs then .absent else s.tags.done }

theorem commitRecordDone_of_epoch {s : State} {e : OpenEpoch} (he : s.jc.epoch = some e) (c : CommitCtx) (i : CommitInfo) :
    s.commitRecordDone c i =
      (s.recordAdded.closeEpoch (entryOf e i)).toTagWait c (s.recordAdded.closeDrops (entryOf e i)) := by
  unfold State.commitRecordDone State.toTagWait
  rw [he]
  cases c.copy.differs <;> rfl

theorem workDone_commitRecord {s : State} {c : CommitCtx} {i : CommitInfo} (hstate : s.jc.state = .committing c)
    (hstep : c.step = .record i) (bytes : List Byte) : s.workDone .commitRecord bytes = s.commitRecordDone c i := by
  simp only [State.workDone, hstate, hstep]

/-- R155: what an OKAY leaves of a transfer in flight for the controller that it ends. -/
def State.transferDone (s : State) : State := { s with port.inFlight := none, jc.work := none }

/-- R85: the answer to the last write of the COMMIT record closes its epoch. -/
theorem exec_commitRecord_ends {s u : State} {r t : Request} {c : CommitCtx} {i : CommitInfo} {e : OpenEpoch}
    {data got : List Byte} {dropped : Bool} (hreset : s.inReset = false) (hflight : s.port.inFlight = some (.controller, r))
    (hstate : s.jc.state = .committing c) (hstep : c.step = .record i)
    (hwork : s.jc.work = some { owner := .commitRecord, todo := [t], got := got }) (he : s.jc.epoch = some e)
    (hclose : s.transferDone.recordAdded.closeEpoch (entryOf e i) = u ∧ s.transferDone.recordAdded.closeDrops (entryOf e i) = dropped) :
    exec (.memoryResponse (.okay data)) s = .next ((u.toTagWait c dropped).finish s.claimWaits) := by
  obtain ⟨rfl, rfl⟩ := hclose
  exact exec_okay_last hreset hflight hwork
    ((workDone_commitRecord (s := s.transferDone) hstate hstep _).trans
      (commitRecordDone_of_epoch (s := s.transferDone) he c i))

/-- Settles O19: what the commit's steps do while it drains and while its writes wait, what the answer to the record's last write
leaves, and the directory steps, which drop the oldest entry exactly when 15 are listed or no slot is free. -/
theorem theCommitRecordIsBuiltAndCloses : Obligations.TheCommitRecordIsBuiltAndCloses := by
  refine ⟨?build, ?ends, ?directory⟩
  case build =>
    intro s c e he writes built
    refine ⟨fun hstep ⟨q, hq, hmarked⟩ => ?_, fun hstep hnone => ?_, fun i hstep => ⟨fun hbusy => ?_, fun hroom hwork => ?_⟩⟩
    · rw [commitStep_drain he hstep, if_neg]
      intro hnone
      rw [(noneMarked_iff s).1 hnone q hq] at hmarked
      contradiction
    · rw [commitStep_drain he hstep, if_pos ((noneMarked_iff s).2 hnone), beginCommitRecord_of_epoch he rfl]
      rfl
    · rw [commitStep_record he hstep, if_neg (not_and_or.2 hbusy)]
    · rw [commitStep_record he hstep, if_pos ⟨hroom, hwork⟩]
      rfl
  case ends =>
    intro s r c i e data got t hreset hflight hstate hstep hwork he entry
    refine ⟨fun hlisted hfree => ?_, fun x xs hcons hslots hlisted hfits hfull => ?_⟩
    · have hclose := closeEpoch_appends (s := s.transferDone.recordAdded) (entryOf e i) hlisted hfree
      rw [exec_commitRecord_ends hreset hflight hstate hstep hwork he hclose]
      rfl
    · have hclose := closeEpoch_drops (s := s.transferDone.recordAdded) (d := entryOf e i) hcons hslots hlisted hfits hfull
      rw [exec_commitRecord_ends hreset hflight hstate hstep hwork he hclose]
      rfl
  case directory =>
    intro s d
    refine ⟨fun x xs => dropOldest_of_cons, closeEpoch_appends d, fun x xs hcons hslots hlisted hfits hfull => ?_⟩
    obtain ⟨hclose, hdrops⟩ := closeEpoch_drops hcons hslots hlisted hfits hfull
    have hlength : xs.length = s.jc.directory.length := by simpa using (congrArg List.length hcons).symm
    rw [hclose]
    exact ⟨rfl, hdrops, hlength.trans_le hlisted, withoutOldest_free xs hslots hfits⟩

/-! ### The COMMIT record's write fails (R86) -/

theorem controllerResponse_error {s : State} {w : Work} {t : Request} {rest : List Request} (hwork : s.jc.work = some w)
    (htodo : w.todo = t :: rest) (hretries : w.owner.retries = false) :
    s.controllerResponse .error = State.workFailed w.owner { s with jc.work := none } := by
  simp [State.controllerResponse, hwork, htodo, hretries]

/-- R155: what an ERROR leaves of a transfer in flight for the controller that is given up. -/
def State.transferFailed (s : State) : State :=
  { s.raise .memoryError with port.inFlight := none, jc.work := none }

/-- R155, R160: an ERROR in flight for the controller ends a transfer that is not made again. -/
theorem exec_error_gives_up {s : State} {r t : Request} {w : Work} {rest : List Request} (hreset : s.inReset = false)
    (hflight : s.port.inFlight = some (.controller, r)) (hwork : s.jc.work = some w) (htodo : w.todo = t :: rest)
    (hretries : w.owner.retries = false) :
    exec (.memoryResponse .error) s = .next ((s.transferFailed.workFailed w.owner).finish s.claimWaits) := by
  show Host.Outcome.next (s.event (State.memoryResponded .error)) = _
  rw [event_of_live hreset, State.memoryResponded, hflight]
  exact congrArg (fun u => Host.Outcome.next (State.finish s.claimWaits u))
    (controllerResponse_error (s := State.raise .memoryError { s with port.inFlight := none }) hwork htodo hretries)

/-- R180: a COMMIT command is the last long operation at the end of its commit; a commit that no command started leaves it. -/
theorem endLong_lastOp_of_committing {s : State} {c : CommitCtx} (h : s.jc.state = .committing c) (r : LongResult) :
    (s.endLong r).link.lastOp = if c.byCommand then some .commit else s.link.lastOp := by
  unfold State.endLong
  cases hb : c.byCommand <;> simp [h, Ctl.longOp, hb]

@[simp] theorem endLong_policies (s : State) (r : LongResult) : (s.endLong r).link.policies = s.link.policies := by
  unfold State.endLong
  split <;> rfl

theorem openBroken_of_epoch {s : State} {e : OpenEpoch} (h : s.jc.epoch = some e) : s.openBroken = e.broken := by
  simp [State.openBroken, h]

/-- R86: what the failed COMMIT record leaves, before the latches are offered. -/
def State.commitRecordGivenUp (s : State) : State :=
  let s1 := (s.endLong .failed).raise .sealFailed
  let s2 : State :=
    { s1 with
      jc.state := if s1.openBroken then .unguarded else .opened
      jc.work := none
      front.queue := unmarkAll s1.front.queue }
  s2.startTimer

theorem commitRecordFailed_eq (s : State) : s.commitRecordFailed = s.commitRecordGivenUp.offerLatches := rfl

/-- R79: the timer as it is started with the interval in force. -/
def State.startedTimer (s : State) : AutoTimer :=
  if s.link.policies.autoCommit = 0 then .idle
  else if s.lines.halt then .paused s.link.policies.autoCommit else .running s.link.policies.autoCommit

theorem startTimer_eq (s : State) : s.startTimer = { s with jc.timer := s.startedTimer } := rfl

theorem commitRecordGivenUp_jc {s : State} {e : OpenEpoch} (he : s.jc.epoch = some e) : s.commitRecordGivenUp.jc =
    { s.jc with state := if e.broken then .unguarded else .opened, work := none, timer := s.startedTimer } := by
  have hbroken : ((s.endLong .failed).raise .sealFailed).openBroken = e.broken := openBroken_of_epoch (by simpa using he)
  simp [State.commitRecordGivenUp, hbroken, startTimer_eq, State.startedTimer]

/-! ### What the offers of the latches do (R78, R86, R117) -/

theorem offerLatches_of_empty {s : State} (hckpt : s.lines.ckptLatch = false) (hfallback : s.lines.fallbackLatch = false) :
    s.offerLatches = s := by
  have hnone : s.offerStep = none := by simp [State.offerStep, eitherFirst, State.offerCkpt, State.offerFallback, hckpt, hfallback]
  rw [State.offerLatches, hnone]

/-- R78: a CKPT request latched alone is taken where a commit can be. -/
theorem offerLatches_of_ckpt {s : State} (hckpt : s.lines.ckptLatch = true) (hfallback : s.lines.fallbackLatch = false)
    (hcan : s.canCommit = true) :
    s.offerLatches = State.takeCommit false { s with lines.ckptLatch := false } := by
  have htaken : s.offerStep = some (State.takeCommit false { s with lines.ckptLatch := false }) := by
    simp [State.offerStep, eitherFirst, State.offerCkpt, State.offerFallback, hckpt, hfallback, hcan]
  have hrest : (State.takeCommit false { s with lines.ckptLatch := false }).offerStep = none := by
    simp [State.offerStep, eitherFirst, State.offerCkpt, State.offerFallback, hfallback]
  rw [State.offerLatches, htaken]
  dsimp only
  rw [hrest]
  rfl

/-- R82: what is copied are the staged table and flag. -/
theorem takeCommit_of_windows {s : State} {w : WindowUnit} (h : s.windows = w) (byCommand : Bool) : s.takeCommit byCommand =
    { s with
      jc.state := .committing
        { copy := { table := w.staged, differs := w.stagedDiffers }, byCommand := byCommand, dropped := false, step := .drain }
      jc.timer := .idle
      front.queue := markAll s.front.queue } := by
  subst h
  rfl

theorem canCommit_of_atRest {s : State} (h : s.AtRest) (hhalt : s.lines.halt = false) : s.canCommit = true := by
  unfold State.canCommit
  rcases h with ⟨hopened, hroom⟩ | hunguarded
  · simp [State.name, State.mark, Ctl.name, hopened, hroom, hhalt]
  · simp [State.name, State.mark, Ctl.name, hunguarded, hhalt]

/-- R86: giving the record up writes neither the windows, the tags, the anchor, the save nor the lines. -/
theorem commitRecordGivenUp_rest (s : State) :
    s.commitRecordGivenUp.windows = s.windows ∧ s.commitRecordGivenUp.tags = s.tags ∧
      s.commitRecordGivenUp.anchor = s.anchor ∧ s.commitRecordGivenUp.save = s.save ∧ s.commitRecordGivenUp.lines = s.lines :=
  ⟨endLong_windows s _, endLong_tags s _, endLong_anchor s _, endLong_save s _, endLong_lines s _⟩

theorem commitRecordGivenUp_front (s : State) :
    s.commitRecordGivenUp.front = { s.front with queue := unmarkAll s.front.queue } :=
  congrArg (fun f : FrontPort => { f with queue := unmarkAll f.queue }) (endLong_front s .failed)

theorem commitRecordGivenUp_flags (s : State) : s.commitRecordGivenUp.events.flags = s.events.flags ||| 0x002 :=
  congrArg (fun ev : EventUnit => ev.flags ||| 0x002) (endLong_events s .failed)

theorem commitRecordGivenUp_atRest {s : State} {e : OpenEpoch} (he : s.jc.epoch = some e) (hroom : s.jc.room = none) :
    s.commitRecordGivenUp.AtRest := by
  unfold State.AtRest
  rw [commitRecordGivenUp_jc he]
  cases hbroken : e.broken
  · exact Or.inl ⟨rfl, hroom⟩
  · exact Or.inr rfl

/-- Settles O20: the record's transfer is not made again, `commitRecordGivenUp` is what it leaves, and the latches are then offered. -/
theorem aFailedCommitRecordLeavesTheEpochOpen : Obligations.AFailedCommitRecordLeavesTheEpochOpen := by
  intro s r c e w t rest hreset hflight hstate hwork howner htodo he
  obtain ⟨hwindows, htags, hanchor, hsave, hlines⟩ := commitRecordGivenUp_rest s.transferFailed
  refine ⟨s.transferFailed.commitRecordGivenUp, ?exec, commitRecordGivenUp_jc (s := s.transferFailed) he,
    commitRecordGivenUp_front s.transferFailed, hwindows, htags, hanchor, hsave, commitRecordGivenUp_flags s.transferFailed,
    endLong_lastResult_of_committing (s := s.transferFailed) hstate .failed,
    endLong_lastOp_of_committing (s := s.transferFailed) hstate .failed, hlines,
    fun hckpt hfallback => ?empty, fun hckpt hfallback hroom hhalt => ?taken⟩
  case exec =>
    rw [exec_error_gives_up hreset hflight hwork htodo (by rw [howner]; rfl), howner]
    rfl
  case empty => exact offerLatches_of_empty (hlines ▸ hckpt) (hlines ▸ hfallback)
  case taken =>
    have hrest : s.transferFailed.commitRecordGivenUp.AtRest := commitRecordGivenUp_atRest (s := s.transferFailed) he hroom
    rw [offerLatches_of_ckpt (hlines ▸ hckpt) (hlines ▸ hfallback) (canCommit_of_atRest hrest (hlines ▸ hhalt))]
    exact takeCommit_of_windows (s := { s.transferFailed.commitRecordGivenUp with lines.ckptLatch := false }) hwindows false

/-! ### The commit's anchor update completes (R93) -/

theorem requesterDone_commit {s : State} {c : CommitCtx} (h : s.jc.state = .committing c) :
    s.requesterDone .commit = s.commitComplete c := by
  simp only [State.requesterDone, h]

section Complete

variable (s : State) (c : CommitCtx)

theorem commitComplete_jc : (s.commitComplete c).jc = { s.jc with state := .opened, timer := s.startedTimer } := by
  simp [State.commitComplete, startTimer_eq, State.startedTimer]

theorem commitComplete_front : (s.commitComplete c).front = { s.front with queue := unmarkAll s.front.queue } := by
  simp [State.commitComplete, State.unmark]

/-- R93: completing the commit writes neither the windows, the anchor nor the lines. -/
theorem commitComplete_rest : (s.commitComplete c).windows = s.windows ∧ (s.commitComplete c).anchor = s.anchor ∧
    (s.commitComplete c).lines = s.lines := by
  simp [State.commitComplete]

/-- R93: COMMITTED is raised, and RECLAIMED for an entry dropped. -/
theorem commitComplete_flags : (s.commitComplete c).events.flags =
    if c.dropped then s.events.flags ||| 0x001 ||| 0x010 else s.events.flags ||| 0x001 := by
  cases hdropped : c.dropped <;> simp [State.commitComplete, State.raiseIf, hdropped, State.raise, EventUnit.raise, Event.bit]

/-- R38, R93: the sweep that starts retires the generation after the open epoch's. -/
theorem commitComplete_tags {e : OpenEpoch} (he : s.jc.epoch = some e) : (s.commitComplete c).tags =
    { s.tags with activity := .retiring (generationOf (e.number.toNat + 1)), done := .absent } := by
  simp [State.commitComplete, State.startRetire, TagUnit.startRetire, State.openNumber, he]

theorem commitComplete_lastResult (h : s.jc.state = .committing c) :
    (s.commitComplete c).link.lastResult = if c.byCommand then .done else s.link.lastResult := by
  rw [← endLong_lastResult_of_committing h]
  simp [State.commitComplete]

end Complete

/-- Settles O22: the last answer of the commit's update hands on to `commitComplete`, part by part. -/
theorem theCommitCompletes : Obligations.TheCommitCompletes := by
  intro s r t c e a got data hreset hflight hwork hactive hrequester hstate he
  obtain ⟨hwindows, hanchor, hlines⟩ := commitComplete_rest (s.updateEnded a) c
  refine ⟨(s.updateEnded a).commitComplete c, exec_update_ends hreset hflight hwork hactive ?_,
    commitComplete_jc (s.updateEnded a) c, hanchor, commitComplete_flags (s.updateEnded a) c,
    commitComplete_tags (s.updateEnded a) c he, commitComplete_front (s.updateEnded a) c, hwindows, hlines,
    commitComplete_lastResult (s.updateEnded a) c hstate⟩
  rw [hrequester, requesterDone_commit (s := s.updateEnded a) hstate]

end Sys2Proof.Machine
end

section
/-! SUPPORT. The auto-commit timer's expiry and the halt (R79, R80, R167, R168, R170). -/

namespace Sys2Proof.Machine

/-! ### The auto-commit timer expires (R80) -/

theorem openPreImages_of_epoch {s : State} {e : OpenEpoch} (he : s.jc.epoch = some e) : s.openPreImages = e.preImages := by
  simp [State.openPreImages, he]

theorem openPreImages_eq_zero {s : State} (h : ∀ e, s.jc.epoch = some e → e.preImages = 0) : s.openPreImages = 0 := by
  cases he : s.jc.epoch with
  | none => simp [State.openPreImages, he]
  | some e => rw [openPreImages_of_epoch he, h e he]

theorem autoExpired_of_running {s : State} {ms : Half} (h : s.jc.timer = .running ms) : s.autoExpired =
    if s.openPreImages = 0 then s.startTimer
    else if s.canCommit then s.takeCommit false else { s with jc.timer := .idle } := by
  rw [State.autoExpired, h]
  rfl

/-- R79: only a RUNNING timer expires. -/
theorem autoExpired_of_not_running {s : State} (h : ∀ ms, s.jc.timer ≠ .running ms) : s.autoExpired = s := by
  unfold State.autoExpired
  split
  case h_1 => rfl
  case h_2 => rfl
  case h_3 ms hrunning => exact absurd hrunning (h ms)

/-- R79: with no halt the timer started runs, unless auto-commit is off. -/
theorem startTimer_of_no_halt {s : State} (h : s.lines.halt = false) : s.startTimer =
    { s with jc.timer := if s.link.policies.autoCommit = 0 then .idle else .running s.link.policies.autoCommit } := by
  simp [State.startTimer, h]

/-- R78: no commit is taken while the anchor update in progress mark is set. -/
theorem canCommit_of_mark {s : State} (h : s.mark = true) : s.canCommit = false := by
  simp [State.canCommit, h]

/-- AUTO_COMMIT_EXPIRY outside reset. -/
theorem exec_autoCommitExpiry {s : State} (h : s.inReset = false) :
    exec .autoCommitExpiry s = .next (s.autoExpired.finish s.claimWaits) :=
  congrArg Host.Outcome.next (event_of_live h State.autoExpired)

/-- Settles O38, by whether the timer runs, whether the open epoch has a pre-image, and whether a commit can be taken. -/
theorem theAutoCommitTimerExpires : Obligations.TheAutoCommitTimerExpires := by
  intro s hreset
  refine ⟨fun ms hrunning hnone hhalt => ?restarts, fun ms e hrunning he hsome hname hmark hhalt => ?commits,
    fun ms e hrunning he hsome hmark => ?dropped, fun hidle => ?idle⟩
  case restarts =>
    rw [exec_autoCommitExpiry hreset, autoExpired_of_running hrunning, if_pos (openPreImages_eq_zero hnone),
      startTimer_of_no_halt hhalt]
  case commits =>
    have hcan : s.canCommit = true := canCommit_of_atRest (atRest_of_name hname hmark) hhalt
    rw [exec_autoCommitExpiry hreset, autoExpired_of_running hrunning, openPreImages_of_epoch he, if_neg hsome, if_pos hcan]
    rfl
  case dropped =>
    rw [exec_autoCommitExpiry hreset, autoExpired_of_running hrunning, openPreImages_of_epoch he, if_neg hsome,
      canCommit_of_mark hmark]
    rfl
  case idle => rw [exec_autoCommitExpiry hreset, autoExpired_of_not_running hidle]

/-! ### Halt (R79, R167, R168, R170) -/

/-- HALT_BEGIN outside reset. -/
theorem exec_haltBegin {s : State} (h : s.inReset = false) :
    exec .haltBegin s = .next (s.beginHalt.finish s.claimWaits) := by
  show execHaltBegin s = _
  rw [execHaltBegin, h, event_of_live h]
  rfl

/-- HALT_END outside reset. -/
theorem exec_haltEnd {s : State} (h : s.inReset = false) : exec .haltEnd s = .next (s.endHalt.finish s.claimWaits) := by
  show execHaltEnd s = _
  rw [execHaltEnd, h, event_of_live h]
  rfl

/-- R167: throughout PRST_N the level of PFW_N is followed and nothing else comes about. -/
theorem exec_halt_in_reset {s : State} (h : s.inReset = true) :
    exec .haltBegin s = .next { s with lines.halt := true } ∧ exec .haltEnd s = .next { s with lines.halt := false } :=
  ⟨if_pos h, if_pos h⟩

theorem endHalt_eq (s : State) : s.endHalt =
    { s with
      lines.halt := false
      jc.timer := if s.name = .opened ∨ s.name = .unguarded then s.jc.timer.resume else s.jc.timer } := by
  simp [State.endHalt]

theorem respond_of_queue {s : State} {e : Entry} {rest : List Entry} (h : s.front.queue = e :: rest) (st : Status)
    (data : List Byte) : s.respond st data =
    { s with
      front.queue := rest
      front.phase := .waiting
      front.holdTimer := none
      front.holdReason := none
      front.responses := s.front.responses ++ [{ status := st, data := responseData e.req st data }]
      save := .idle } := by
  rw [State.respond, h]

/-- R168: under halt a head not in progress is answered HALTED. -/
theorem headStep_of_halt {s : State} {e : Entry} {rest : List Entry} (hhalt : s.lines.halt = true)
    (hprogress : s.inProgress = false) (hqueue : s.front.queue = e :: rest) :
    s.headStep = some (s.respond .halted []) := by
  rw [State.headStep, hprogress, hqueue, hhalt]
  rfl

/-- R169: under halt the controller raises no claim. -/
theorem raiseCtlClaim_of_halt {s : State} (h : s.lines.halt = true) : s.raiseCtlClaim = s := by
  rw [State.raiseCtlClaim, h]
  rfl

/-- Settles O39: `beginHalt` and `endHalt` are the events' effects, and a halt decides the head's answer and the claim. -/
theorem aHaltBeginsAndEnds : Obligations.AHaltBeginsAndEnds := by
  refine ⟨fun s hreset => ⟨?begins, ?ends⟩, fun s => exec_halt_in_reset, fun s e rest hhalt hprogress hqueue => ?head,
    fun s => raiseCtlClaim_of_halt⟩
  case begins =>
    rw [exec_haltBegin hreset]
    rfl
  case ends =>
    rw [exec_haltEnd hreset, endHalt_eq]
    rfl
  case head =>
    rw [headStep_of_halt hhalt hprogress hqueue, respond_of_queue hqueue]
    rfl

end Sys2Proof.Machine
end

section
/-! SUPPORT. Anchor updates asked for and failed (R97, R99 to R103, R123), which anchor slots are valid, and what the anchor read
chooses (R98, R99, R137 to R139). -/

namespace Sys2Proof.Machine

/-! ### An update is asked for (R97, R100) -/

/-- R100: what an update asked for with newest slot n fixes. -/
def Newest.nextWrite (n : Newest) (r : Requester) (a : Anchor) : AnchorWrite :=
  { target := n.slot.other, seq := n.seq + 1, image := { a with seq := n.seq + 1 }, requester := r }

theorem startUpdate_of_newest {s : State} {n : Newest} (h : s.anchor.newest = some n) (r : Requester) (a : Anchor) :
    s.startUpdate r a =
      { s with
        anchor.active := some (n.nextWrite r a)
        jc.work := some
          { owner := .update
            todo := anchorWrites s.base n.slot.other (Anchor.encode n.slot.other { a with seq := n.seq + 1 })
            got := [] } } := by
  have hslot : s.targetSlot = n.slot.other := by rw [State.targetSlot, h]
  have hseq : s.targetSeq = n.seq + 1 := by rw [State.targetSeq, h]
  rw [State.startUpdate, hslot, hseq]
  rfl

/-- R97: the open epoch's fields of an image are those of its record. -/
theorem image_of_epoch {s : State} {e : OpenEpoch} (he : s.jc.epoch = some e) :
    s.image.openNumber = e.number ∧ s.image.openFirstSlot = e.firstSlot ∧ s.image.openFirstSeq = e.firstSeq ∧
      s.image.openBroken = e.broken := by
  simp [State.image, State.openNumber, State.openBroken, he]

/-- Settles O23: the slot and sequence come from the newest slot, and the image's fields are those of the state. -/
theorem anAnchorUpdateAlternates : Obligations.AnAnchorUpdateAlternates := by
  intro s r a n e hnewest he
  obtain ⟨hnumber, hfirstSlot, hfirstSeq, hbroken⟩ := image_of_epoch he
  refine ⟨⟨n.nextWrite r a, _, ?_, rfl, rfl, rfl, rfl, rfl, ?_⟩, rfl, rfl, rfl, rfl, rfl, hnumber, hfirstSlot, hfirstSeq,
    hbroken, rfl, rfl, rfl⟩
  all_goals rw [startUpdate_of_newest hnewest]
  rfl

/-! ### A long operation's result (R180) -/

theorem endLong_of_longOp {s : State} {op : LongOp} (h : s.jc.state.longOp = some op) (r : LongResult) :
    s.endLong r = { s with link.lastOp := some op, link.lastResult := r } := by
  rw [State.endLong, h]

theorem endLong_link_of_none {s : State} (h : s.jc.state.longOp = none) (r : LongResult) :
    (s.endLong r).link = s.link := by
  rw [State.endLong, h]

/-- R180: the end of a long operation writes the link alone. -/
theorem endLong_eq (s : State) (r : LongResult) : s.endLong r = { s with link := (s.endLong r).link } := by
  unfold State.endLong
  split <;> rfl

theorem longOp_of_committing (c : CommitCtx) :
    Ctl.longOp (.committing c) = if c.byCommand then some .commit else none := rfl

theorem longOp_of_rollingBack (c : RollbackCtx) :
    Ctl.longOp (.rollingBack c) = if c.cause = .command then some .rollback else none := rfl

/-- R180: in these states the name alone says which long operation runs. -/
theorem longOp_of_name (k : Ctl) :
    (k.name = .discarding → k.longOp = some .discard) ∧ (k.name = .clearing → k.longOp = some .clearDamage) ∧
      (k.name = .formatting → k.longOp = some .format) ∧ (k.name = .opened ∨ k.name = .unguarded → k.longOp = none) := by
  cases k <;> simp [Ctl.name, Ctl.longOp]

/-! ### An update fails (R101, R103, R123) -/

/-- R101: what a failed update leaves before its requester gives up. -/
def State.updateGivenUp (s : State) : State := { s.transferFailed with anchor.active := none }

theorem exec_update_fails {s : State} {r t : Request} {rest : List Request} {a : AnchorWrite} {got : List Byte}
    (hreset : s.inReset = false) (hflight : s.port.inFlight = some (.controller, r))
    (hwork : s.jc.work = some { owner := .update, todo := t :: rest, got := got }) (hactive : s.anchor.active = some a) :
    exec (.memoryResponse .error) s = .next ((s.updateGivenUp.requesterFailed a.requester).finish s.claimWaits) := by
  have hfailed : s.transferFailed.workFailed .update = s.updateGivenUp.requesterFailed a.requester := by
    show s.transferFailed.updateFailed = _
    rw [State.updateFailed, show s.transferFailed.anchor.active = some a from hactive]
    rfl
  rw [exec_error_gives_up hreset hflight hwork rfl rfl, hfailed]

/-- R92, R108, R114, R130, R149: the result and the report that a requester's failed update leaves. -/
def State.requesterEnded (r : Requester) (s : State) : State :=
  { s with
    events.report :=
      if r = .completion ∨ r = .recovery then
        s.events.report.map fun x => { x with finish := some s.stamp, outcome := some .damaged }
      else s.events.report
    link := if r = .recovery then s.link else (s.endLong .failed).link }

/-- R103: every failed update but the intent's leads to DAMAGED. -/
theorem requesterFailed_of_ne_intent {r : Requester} (h : r ≠ .intent) (s : State) :
    s.requesterFailed r = (s.requesterEnded r).enterDamaged .anchor := by
  have hlink := endLong_eq s .failed
  cases r with
  | intent => exact absurd rfl h
  | recovery => rfl
  | completion =>
    show ((s.endLong .failed).endReport .damaged).enterDamaged .anchor = _
    rw [hlink]
    rfl
  | reclaim | unguard | commit | discard | clearing =>
    show (s.endLong .failed).enterDamaged .anchor = _
    rw [hlink]
    rfl

/-- R180: the link after a failed update, but a recovery's, is that of the operation's end. -/
theorem requesterEnded_link {r : Requester} (h : r ≠ .recovery) (s : State) :
    (s.requesterEnded r).link = (s.endLong .failed).link := if_neg h

/-- R123: what a failed intent leaves before the latches are offered. -/
def State.intentGivenUp (s : State) : State :=
  { s with
    link := (s.endLong .failed).link
    jc.state := .opened
    jc.timer := s.startedTimer
    front.queue := unmarkAll s.front.queue }

theorem intentFailed_eq (s : State) : s.intentFailed = s.intentGivenUp.offerLatches := by
  rw [State.intentFailed, endLong_eq]
  simp [startTimer_eq, State.startedTimer, State.unmark, State.intentGivenUp]

theorem intentGivenUp_lastResult {s : State} {c : RollbackCtx} (h : s.jc.state = .rollingBack c) :
    s.intentGivenUp.link.lastResult = if c.cause = .command then .failed else s.link.lastResult := by
  show (s.endLong .failed).link.lastResult = _
  unfold State.endLong
  by_cases hcause : c.cause = .command <;> simp [h, longOp_of_rollingBack, hcause]

/-- Settles O24: a failed update ends the operation and enters DAMAGED, but the intent's, which returns to OPEN and offers the
latches. -/
theorem aFailedUpdateDamagesOrReturns : Obligations.AFailedUpdateDamagesOrReturns := by
  refine ⟨?damages, ?returns⟩
  case damages =>
    intro s r t rest a got hreset hflight hwork hactive hne
    obtain ⟨hdiscard, hclear, hformat, hnone⟩ := longOp_of_name s.jc.state
    have hended {op : LongOp} (hop : s.jc.state.longOp = some op) : (s.updateGivenUp.endLong .failed).link =
        { s.link with lastOp := some op, lastResult := .failed } :=
      congrArg State.link (endLong_of_longOp (s := s.updateGivenUp) hop .failed)
    have hkept (hop : s.jc.state.longOp = none) : (s.updateGivenUp.endLong .failed).link = s.link :=
      endLong_link_of_none (s := s.updateGivenUp) hop .failed
    refine ⟨(s.updateGivenUp.requesterEnded a.requester).enterDamaged .anchor, ?exec, rfl, rfl, rfl, rfl, rfl, rfl, rfl, rfl,
      rfl, fun hrecovery => if_pos hrecovery, fun hother => ?link⟩
    case exec =>
      rw [exec_update_fails hreset hflight hwork hactive, requesterFailed_of_ne_intent hne]
    case link =>
      have hlink : ((s.updateGivenUp.requesterEnded a.requester).enterDamaged .anchor).link =
          (s.updateGivenUp.endLong .failed).link := requesterEnded_link hother s.updateGivenUp
      rw [hlink]
      exact ⟨fun c hc hcommand => hended (by rw [hc, longOp_of_committing, if_pos hcommand]),
        fun c hc hcommand => hended (by rw [hc, longOp_of_rollingBack, if_pos hcommand]),
        fun hname => hended (hdiscard hname), fun hname => hended (hclear hname),
        fun c hc hline => hkept (by rw [hc, longOp_of_committing, if_neg (Bool.eq_false_iff.1 hline)]),
        fun c hc hline => hkept (by rw [hc, longOp_of_rollingBack, if_neg hline]),
        fun hname => hended (hformat hname), fun hname => hkept (hnone hname)⟩
  case returns =>
    intro s r t rest a c got hreset hflight hwork hactive hintent hstate
    refine ⟨s.updateGivenUp.intentGivenUp, ?exec, rfl, rfl, rfl, rfl, rfl, rfl, rfl, rfl, rfl,
      intentGivenUp_lastResult (s := s.updateGivenUp) hstate, fun hckpt hfallback => offerLatches_of_empty hckpt hfallback,
      fun hckpt hfallback hroom hhalt => ?taken⟩
    case exec =>
      rw [exec_update_fails hreset hflight hwork hactive, hintent]
      exact congrArg (fun u => Host.Outcome.next (State.finish s.claimWaits u)) (intentFailed_eq s.updateGivenUp)
    case taken =>
      have hrest : s.updateGivenUp.intentGivenUp.AtRest := Or.inl ⟨rfl, hroom⟩
      exact offerLatches_of_ckpt hckpt hfallback (canCommit_of_atRest hrest hhalt)

/-! ### Which anchor slots are valid (R98, R188, R189) -/

/-- R98: the four tests of an anchor slot. -/
structure AnchorPasses (t : AnchorSlot) (jb : BitVec 4) (js : BitVec 3) (bytes : List Byte) : Prop where
  code : leWord (fieldAt 508 4 bytes) = anchorCheck (fieldAt 0 508 bytes) t
  size : bytes.getD 6 0 = js.setWidth 8
  base : bytes.getD 397 0 = jb.setWidth 8
  format : leHalf (fieldAt 4 2 bytes) ≠ 0
  entries : (bytes.getD 7 0).toNat ≤ 15

theorem validAnchor_of_passes {t : AnchorSlot} {jb : BitVec 4} {js : BitVec 3} {bytes : List Byte}
    (h : AnchorPasses t jb js bytes) : validAnchor t jb js bytes = some (anchorOf bytes) :=
  if_pos ⟨h.code, h.size, h.base, h.format, h.entries⟩

theorem validAnchor_of_not_passes {t : AnchorSlot} {jb : BitVec 4} {js : BitVec 3} {bytes : List Byte}
    (h : ¬ AnchorPasses t jb js bytes) : validAnchor t jb js bytes = none :=
  if_neg fun ⟨hcode, hsize, hbase, hformat, hentries⟩ => h ⟨hcode, hsize, hbase, hformat, hentries⟩

/-- R186: a 2-byte field is 0 only when both its bytes are. -/
theorem leHalf_ne_zero {bs : List Byte} (hlength : bs.length = 2) (hne : bs ≠ [0, 0]) : leHalf bs ≠ 0 := by
  obtain ⟨x, y, rfl⟩ := List.length_eq_two.1 hlength
  intro hzero
  have hnat : (x.toNat + 256 * (y.toNat + 256 * 0)) % 2 ^ 16 = 0 := congrArg BitVec.toNat hzero
  have hx : x = 0 := by bv_omega
  have hy : y = 0 := by bv_omega
  exact hne (by rw [hx, hy])

/-! ### Which anchor is the newest (R99) -/

section NewestOfTwo

variable {a b : Anchor}

theorem newestAnchor_next (h : b.seq = a.seq + 1) : newestAnchor (some a) (some b) = some (.slot1, b) := if_pos h

/-- R52: no sequence number is one above the other and one below it. -/
theorem newestAnchor_previous (h : a.seq = b.seq + 1) : newestAnchor (some a) (some b) = some (.slot0, a) := by
  have hnext : b.seq ≠ a.seq + 1 := by bv_omega
  exact (if_neg hnext).trans (if_pos h)

theorem newestAnchor_apart (hnext : b.seq ≠ a.seq + 1) (hprevious : a.seq ≠ b.seq + 1) :
    newestAnchor (some a) (some b) = if a.seq < b.seq then some (.slot1, b) else some (.slot0, a) :=
  (if_neg hnext).trans (if_neg hprevious)

theorem newestAnchor_greater (hnext : b.seq ≠ a.seq + 1) (hprevious : a.seq ≠ b.seq + 1) (h : a.seq < b.seq) :
    newestAnchor (some a) (some b) = some (.slot1, b) := (newestAnchor_apart hnext hprevious).trans (if_pos h)

theorem newestAnchor_not_greater (hnext : b.seq ≠ a.seq + 1) (hprevious : a.seq ≠ b.seq + 1) (h : b.seq ≤ a.seq) :
    newestAnchor (some a) (some b) = some (.slot0, a) :=
  (newestAnchor_apart hnext hprevious).trans (if_neg (BitVec.not_lt.2 h))

theorem newestAnchor_equal (h : a.seq = b.seq) : newestAnchor (some a) (some b) = some (.slot0, a) :=
  newestAnchor_not_greater (by bv_omega) (by bv_omega) (by bv_omega)

end NewestOfTwo

/-! ### The anchor read ends (R138, R139) -/

theorem workDone_anchorRead {s : State} (h : s.jc.state = .anchorRead) (bytes : List Byte) :
    s.workDone .anchorRead bytes = s.judgeAnchors bytes := by
  simp only [State.workDone, h]

theorem judgeAnchors_of_none {s : State} {bytes : List Byte} (h0 : validAnchor .slot0 s.jbase s.jsize (bytes.take 512) = none)
    (h1 : validAnchor .slot1 s.jbase s.jsize (bytes.drop 512) = none) :
    s.judgeAnchors bytes = { s with jc.state := .unformatted } := by
  rw [State.judgeAnchors, h0, h1]
  rfl

theorem judgeAnchors_of_newest {s : State} {bytes : List Byte} {t : AnchorSlot} {a : Anchor}
    (h : newestAnchor (validAnchor .slot0 s.jbase s.jsize (bytes.take 512))
      (validAnchor .slot1 s.jbase s.jsize (bytes.drop 512)) = some (t, a)) : s.judgeAnchors bytes = s.loadAnchor t a := by
  rw [State.judgeAnchors, h]

/-- Settles O31: the tests of a slot, the order of two valid slots, and what the last answer of the anchor read leaves. -/
theorem theAnchorReadChoosesTheNewest : Obligations.TheAnchorReadChoosesTheNewest := by
  refine ⟨fun t jb js bytes => ?slot, ⟨fun a => ⟨rfl, rfl⟩, rfl, fun a b => ?newest⟩,
    fun s r t got data bytes hreset hflight hstate hwork hbytes => ⟨fun h0 h1 => ?none, fun slot a hnewest => ?loads⟩⟩
  case slot =>
    refine ⟨fun hcode => ?_, fun hsize => ?_, fun hbase => ?_, fun hformat => ?_, fun hentries => ?_,
      fun hlength hcode hsize hbase hformat hentries => ?_⟩
    · exact validAnchor_of_not_passes fun h => hcode h.code
    · exact validAnchor_of_not_passes fun h => hsize h.size
    · exact validAnchor_of_not_passes fun h => hbase h.base
    · exact validAnchor_of_not_passes fun h => h.format (by rw [hformat]; rfl)
    · exact validAnchor_of_not_passes fun h => Nat.not_le.2 hentries h.entries
    · have hfield : (fieldAt 4 2 bytes).length = 2 := by simp [fieldAt, hlength]
      exact validAnchor_of_passes ⟨hcode, hsize, hbase, leHalf_ne_zero hfield hformat, hentries⟩
  case newest =>
    exact ⟨newestAnchor_next, newestAnchor_previous, newestAnchor_equal, newestAnchor_greater,
      fun hnext hprevious hless => newestAnchor_not_greater hnext hprevious (BitVec.le_of_lt hless)⟩
  case none =>
    subst hbytes
    exact exec_okay_last hreset hflight hwork
      ((workDone_anchorRead (s := s.transferDone) hstate _).trans (judgeAnchors_of_none (s := s.transferDone) h0 h1))
  case loads =>
    subst hbytes
    exact exec_okay_last hreset hflight hwork
      ((workDone_anchorRead (s := s.transferDone) hstate _).trans (judgeAnchors_of_newest (s := s.transferDone) hnewest))

end Sys2Proof.Machine
end

section
/-! SUPPORT. DISCARD, FORMAT and CLEAR DAMAGE: taken, carried through their steps, and completed (R8, R31, R106 to R114), and the
images that FORMAT writes (R46, R98, R110, R187, R189). -/

namespace Sys2Proof.Machine

/-! ### The commands are taken (R106, R107, R109, R113) -/

section Taken

variable {s : State} (hready : s.linkReady = true)
include hready

theorem exec_discard_accepted {e : Word} (hr : s.discardResult e = .accepted) :
    exec (.discard e) s = .next (((s.accept .discard).takeDiscard e).finish s.claimWaits) :=
  congrArg Host.Outcome.next ((linkCommand_of_ready hready _).trans (longCommand_accepted hr _ _ s))

theorem exec_format_accepted (hr : s.formatResult = .accepted) :
    exec .format s = .next ((s.accept .format).takeFormat.finish s.claimWaits) :=
  congrArg Host.Outcome.next ((linkCommand_of_ready hready _).trans (longCommand_accepted hr _ _ s))

theorem exec_clearDamage_accepted (hr : s.clearDamageResult = .accepted) :
    exec .clearDamage s = .next ((s.accept .clearDamage).takeClearing.finish s.claimWaits) :=
  congrArg Host.Outcome.next ((linkCommand_of_ready hready _).trans (longCommand_accepted hr _ _ s))

end Taken

theorem discardSet_isEmpty_eq_false {s : State} {e : Word} (h : ∃ d ∈ s.jc.directory, d.number ≤ e) :
    (s.discardSet e).isEmpty = false := by
  simpa [State.discardSet] using h

/-- R107: tail behind the discard set: the oldest remaining entry's first slot, or that of the open epoch ep. -/
theorem discardTail_of_epoch {s : State} {ep : OpenEpoch} (he : s.jc.epoch = some ep) (e : Word) : s.discardTail e =
    match s.jc.directory.drop (s.discardSet e).length with
      | d :: _ => d.firstSlot
      | [] => ep.firstSlot := by
  rw [State.discardTail, he]
  rfl

/-- R79, R107: DISCARDING is entered and a RUNNING timer pauses. -/
def State.discardTaken (c : DiscardCtx) (s : State) : State :=
  { s with jc.state := .discarding c, jc.timer := s.jc.timer.pause }

/-- R107, log 19: the update is asked for at once, but not while an unguard's update is still being written. -/
theorem takeDiscard_of_context {s : State} {e : Word} {c : DiscardCtx} (h : s.discardContext e = c) : s.takeDiscard e =
    if s.jc.room = none then (s.discardTaken c).askDiscard c else s.discardTaken c := by
  subst h
  simp only [State.takeDiscard, Option.isNone_iff_eq_none]
  rfl

/-- Log 19: the update that waited is asked for when neither an update nor a transfer is under way. -/
theorem discardStep_eq (s : State) (c : DiscardCtx) : s.discardStep c =
    if s.jc.room = none ∧ s.jc.work = none then some (s.askDiscard c) else none := by
  simp [State.discardStep]

theorem pause_eq (a : AutoTimer) :
    a.pause = match a with | .running ms => .paused ms | .paused ms => .paused ms | .idle => .idle := by
  cases a <;> rfl

/-- R109: above the newest valid anchor's format number, 65,535 followed by 1, and 1 when there is none. -/
theorem newFormat_eq (s : State) : s.newFormat =
    if s.anchor.newest = none ∨ s.anchor.format = 0xFFFF then 1 else s.anchor.format + 1 := by
  unfold State.newFormat
  cases s.anchor.newest <;> simp

/-- R109: where a FORMAT is not BUSY. -/
theorem longBusy_eq_false {s : State}
    (h : s.name = .unformatted ∨ s.name = .damaged ∨ s.name = .unguarded ∨ s.name = .opened ∧ s.mark = false) :
    s.longBusy = false := by
  unfold State.longBusy
  rcases h with hname | hname | hname | ⟨hname, hmark⟩ <;> rw [hname]
  exact hmark

/-- Settles O18: no test of its rule refuses the command, and what it takes is `takeDiscard`, `takeFormat` or `takeClearing` of the
state with the command's frame answered ACCEPTED. -/
theorem discardFormatAndClearingAreTaken : Obligations.DiscardFormatAndClearingAreTaken := by
  refine ⟨?discard, fun s c => ⟨fun hbusy => ?waits, fun hroom hwork => ?asks⟩, fun s hready hname hhalt => ?format,
    fun s k hready hstate hcause hhalt => ?clearing⟩
  case discard =>
    intro s e ep hready hfree hhalt he hsome count freed newTail
    have hresult : s.discardResult e = .accepted := by
      simp [discardResult_of_atRest ((atRest_iff s).2 hfree), hhalt, discardSet_isEmpty_eq_false hsome]
    have hcontext : (s.accept .discard).discardContext e =
        { fromUnguarded := decide (s.name = .unguarded), count := count, newTail := newTail, freed := freed } := by
      rw [State.discardContext, discardTail_of_epoch (s := s.accept .discard) he]
      rfl
    have hnumber : (s.accept .discard).openNumber = ep.number := openNumber_of_epoch he
    have htimer := pause_eq s.jc.timer
    refine ⟨_, exec_discard_accepted hready hresult, ?_⟩
    rw [takeDiscard_of_context hcontext]
    by_cases hroom : s.jc.room = none
    · rw [if_pos (show (s.accept .discard).jc.room = none from hroom)]
      exact ⟨rfl, rfl, rfl, rfl, htimer, rfl, rfl, rfl, rfl, rfl, rfl, fun h => absurd hroom h,
        fun _ => ⟨_, rfl, rfl, rfl, rfl, rfl, rfl, hnumber⟩⟩
    · rw [if_neg (show (s.accept .discard).jc.room ≠ none from hroom)]
      exact ⟨rfl, rfl, rfl, rfl, htimer, rfl, rfl, rfl, rfl, rfl, rfl, fun _ => ⟨rfl, rfl, rfl⟩, fun h => absurd h hroom⟩
  case waits => rw [discardStep_eq, if_neg (not_and_or.2 hbusy)]
  case asks =>
    exact ⟨_, _, (discardStep_eq s c).trans (if_pos ⟨hroom, hwork⟩), rfl, rfl, rfl, rfl, rfl, rfl, rfl, rfl⟩
  case format =>
    have hresult : s.formatResult = .accepted := by simp [formatResult_of_not_busy (longBusy_eq_false hname), hhalt]
    have hnumber : (s.accept .format).newFormat = _ := newFormat_eq s
    refine ⟨_, exec_format_accepted hready hresult, ?_, rfl, rfl, rfl, rfl, rfl, rfl, rfl, rfl, rfl⟩
    rw [State.takeFormat, hnumber]
    rfl
  case clearing =>
    have hname : s.name = .damaged := congrArg Ctl.name hstate
    have hresult : s.clearDamageResult = .accepted := by
      simp [clearDamageResult_of_damaged hname (by simp [hstate, hcause]), hhalt]
    exact exec_clearDamage_accepted hready hresult

/-! ### The images that FORMAT writes are valid nowhere (R46, R98, R110, R187, R189) -/

/-- R46: the scrub image's kind code is neither a pre-image's nor a COMMIT's. -/
theorem validRecord_scrubImage (slot : Nat) (f : Half) (q lo hi : Word) : validRecord slot f q lo hi scrubImage = none := by
  rw [Option.eq_none_iff_forall_ne_some]
  intro r hr
  obtain ⟨-, hkind, -⟩ := validRecord_bytes hr
  have hcode : leNat (fieldAt 0 3 scrubImage) / 2097152 = 7 := rfl
  omega

/-- R110: the invalidation image, in its two parts. -/
theorem invalidationImage_parts : invalidationImage.length = 512 ∧ invalidationImage.take 508 = List.replicate 508 0 ∧
    leWord (fieldAt 508 4 invalidationImage) =
      invalidCheck (anchorCheck (List.replicate 508 0) .slot0) (anchorCheck (List.replicate 508 0) .slot1) := by
  obtain ⟨zeros, hzeros, hlength, himage⟩ := invalidationImage_eq
  rw [himage, ← hzeros]
  refine ⟨by simp [hlength], List.take_left' hlength, ?_⟩
  rw [fieldAt_append_right 508 4 _ _ hlength.le, hlength, fieldAt_whole 4 _ (leBytes_length 4 _), leWord_leBytes]

/-- R98, R110: the stored code is that of neither slot. -/
theorem validAnchor_invalidationImage (t : AnchorSlot) (jb : BitVec 4) (js : BitVec 3) :
    validAnchor t jb js invalidationImage = none := by
  obtain ⟨-, hzeros, hcode⟩ := invalidationImage_parts
  obtain ⟨-, hnot0, hnot1, -⟩ := invalidCheck_smallest
    (anchorCheck (List.replicate 508 0) .slot0) (anchorCheck (List.replicate 508 0) .slot1)
  refine validAnchor_of_not_passes fun h => ?_
  have hpasses := h.code
  rw [hcode, show fieldAt 0 508 invalidationImage = List.replicate 508 0 from hzeros] at hpasses
  cases t
  · exact hnot0 hpasses
  · exact hnot1 hpasses

/-! ### The steps of a format (R110, R111) -/

theorem scrubs_iff (c : FormatCtx) : c.scrubs = true ↔ c.cameFrom = .unformatted ∨ c.number = 1 := by
  simp [FormatCtx.scrubs]

/-- Log 19, R110: the first transfer waits for the head in progress and for an unguard's update. -/
theorem formatStep_headWait {s : State} {c : FormatCtx} (h : c.step = .headWait) : s.formatStep c =
    if s.inProgress = true ∨ s.jc.room ≠ none then none else some (s.formatBegin c) := by
  simp [State.formatStep, h, Option.isSome_iff_ne_none]

theorem formatStep_apply {s : State} {c : FormatCtx} (h : c.step = .apply) : s.formatStep c =
    if s.inProgress = true then none else some (s.formatApply c) := by
  simp only [State.formatStep, h]

theorem formatStep_clear {s : State} {c : FormatCtx} (h : c.step = .clear) : s.formatStep c =
    if s.tags.done = .all then some s.formatComplete else none := by
  simp only [State.formatStep, h]

section Transfers

variable {c : FormatCtx}

theorem formatWorkDone_scrub {slot : Nat} (h : c.step = .scrub slot) (s : State) :
    s.formatWorkDone .scrub c = s.scrubDone c slot := by
  simp only [State.formatWorkDone, h]

theorem formatWorkDone_invalidate0 (h : c.step = .invalidate0) (s : State) :
    s.formatWorkDone .invalidate0 c = s.invalidate1 c := by
  simp only [State.formatWorkDone, h]

theorem formatWorkDone_invalidate1 (h : c.step = .invalidate1) (s : State) :
    s.formatWorkDone .invalidate1 c = s.writeSlot0 c := by
  simp only [State.formatWorkDone, h]

theorem formatWorkDone_slot0 (h : c.step = .slot0) (s : State) : s.formatWorkDone .slot0 c = s.slot0Done c := by
  simp only [State.formatWorkDone, h]

end Transfers

/-- R110: a transfer of FORMAT that ends is handed to the step that it was made for. -/
theorem exec_format_transfer_ends {s u : State} {r t : Request} {c : FormatCtx} {o : Owner} {got data : List Byte}
    (hreset : s.inReset = false) (hflight : s.port.inFlight = some (.controller, r))
    (hwork : s.jc.work = some { owner := o, todo := [t], got := got }) (hstate : s.jc.state = .formatting c)
    (ho : o = .scrub ∨ o = .invalidate0 ∨ o = .invalidate1 ∨ o = .slot0) (hu : s.transferDone.formatWorkDone o c = u) :
    exec (.memoryResponse (.okay data)) s = .next (u.finish s.claimWaits) := by
  refine exec_okay_last hreset hflight hwork (Eq.trans ?_ hu)
  have hdone : s.transferDone.jc.state = .formatting c := hstate
  show s.transferDone.workDone o _ = _
  rcases ho with rfl | rfl | rfl | rfl <;> simp only [State.workDone, hdone]

/-- R111: what a format that completes leaves. -/
theorem formatComplete_of_epoch {s : State} {c : FormatCtx} {e : OpenEpoch} (hstate : s.jc.state = .formatting c)
    (he : s.jc.epoch = some e) : s.formatComplete =
    { s with
      jc.state := .opened
      jc.timer := s.startedTimer
      tags.activity := .retiring (generationOf (e.number.toNat + 1))
      tags.done := .absent
      events.flags := s.events.flags ||| 0x800
      events.raisedSince := s.events.raisedSince ||| 0x800
      link.lastOp := some .format
      link.lastResult := .done } := by
  have hlong : s.jc.state.longOp = some .format := by rw [hstate]; rfl
  rw [State.formatComplete, endLong_of_longOp hlong, ← openNumber_of_epoch he]
  rfl

/-- Settles O35: the images are refused by their kind and their code, each step of FORMAT follows its rule, and each transfer that ends
hands on to the next step. -/
theorem aFormatWritesSlotZeroAndCompletes : Obligations.AFormatWritesSlotZeroAndCompletes := by
  refine ⟨validRecord_scrubImage, ?image, fun s c hstep hbusy => ?waits, fun s c hidle hroom hstep => ⟨fun hall => ?scrubs,
    fun hformatted hnumber => ?invalidates⟩, ?transfers, fun u c hstep => ⟨fun hbusy => ?applyWaits, fun hidle => ?applies⟩,
    fun s c e hstate hstep he => ⟨fun hrunning => ?clearWaits, fun hall => ?completes⟩⟩
  case image =>
    intro code passing
    obtain ⟨hlength, hzeros, hcode⟩ := invalidationImage_parts
    obtain ⟨hle, hnot0, hnot1, hleast⟩ := invalidCheck_smallest
      (anchorCheck (List.replicate 508 0) .slot0) (anchorCheck (List.replicate 508 0) .slot1)
    rw [← hcode] at hle hnot0 hnot1 hleast
    exact ⟨hlength, hzeros, hle, hnot0, hnot1, hleast, validAnchor_invalidationImage⟩
  case waits => rw [formatStep_headWait hstep, if_pos hbusy]
  case scrubs =>
    rw [formatStep_headWait hstep, if_neg (by simp [hidle, hroom]), State.formatBegin, if_pos ((scrubs_iff c).2 hall)]
    rfl
  case invalidates =>
    have hkeeps : ¬ c.scrubs = true := mt (scrubs_iff c).1 (not_or.2 ⟨hformatted, hnumber⟩)
    rw [formatStep_headWait hstep, if_neg (by simp [hidle, hroom]), State.formatBegin, if_neg hkeeps]
    rfl
  case transfers =>
    intro s r t c o got data hreset hflight hwork hstate
    have hends {u : State} := exec_format_transfer_ends (u := u) (data := data) hreset hflight hwork hstate
    refine ⟨fun slot ho hstep hnext => ?next, fun slot ho hstep hlast => ?last, fun ho hstep => ?slot1, fun ho hstep => ?slot0,
      fun ho hstep => ?done⟩
    all_goals subst ho
    case next => exact hends (Or.inl rfl) ((formatWorkDone_scrub hstep _).trans (if_pos hnext))
    case last => exact hends (Or.inl rfl) ((formatWorkDone_scrub hstep _).trans (if_neg (Nat.not_lt.2 hlast)))
    case slot1 => exact hends (by simp) (formatWorkDone_invalidate0 hstep _)
    case slot0 => exact hends (by simp) (formatWorkDone_invalidate1 hstep _)
    case done => exact hends (by simp) (formatWorkDone_slot0 hstep _)
  case applyWaits => rw [formatStep_apply hstep, if_pos hbusy]
  case applies =>
    rw [formatStep_apply hstep, if_neg (Bool.eq_false_iff.1 hidle)]
    rfl
  case clearWaits => rw [formatStep_clear hstep, if_neg hrunning]
  case completes =>
    rw [formatStep_clear hstep, if_pos hall, formatComplete_of_epoch hstate he]
    rfl

/-! ### The steps of a clearing (R8, R31, R114) -/

section Clearing

variable {s : State} {c : ClearCtx}

theorem clearingStep_headWait (h : c.step = .headWait) : s.clearingStep c =
    if s.inProgress = true then none else some (s.clearingEmpty c) := by
  simp only [State.clearingStep, h]

theorem clearingStep_clear (h : c.step = .clear) : s.clearingStep c =
    if s.tags.done = .all then some (s.clearingOpen c) else none := by
  simp only [State.clearingStep, h]

theorem clearingStep_apply (h : c.step = .apply) : s.clearingStep c =
    if s.inProgress = true then none else some (s.clearingApply c) := by
  simp only [State.clearingStep, h]

theorem clearingStep_anchor (h : c.step = .anchor) : s.clearingStep c = none := by
  simp only [State.clearingStep, h]

/-- R114: the next epoch opens at head. -/
theorem clearingOpen_of_next {m : Word} (h : epochAfter s.openNumber = some m) :
    s.clearingOpen c = { s.openEpoch m false with jc.state := .clearing { c with step := .apply } } := by
  rw [State.clearingOpen, h]

/-- R31: no epoch number is left. -/
theorem clearingOpen_of_exhausted (h : epochAfter s.openNumber = none) :
    s.clearingOpen c = (s.endLong .failed).enterDamaged .exhausted := by
  rw [State.clearingOpen, h]

theorem requesterDone_clearing (h : s.jc.state = .clearing c) : s.requesterDone .clearing = s.clearingComplete := by
  simp only [State.requesterDone, h]

/-- R114: what a clearing that completes leaves; no event is raised. -/
theorem clearingComplete_of_epoch {e : OpenEpoch} (hstate : s.jc.state = .clearing c) (he : s.jc.epoch = some e) :
    s.clearingComplete =
      { s with
        jc.state := .opened
        jc.timer := s.startedTimer
        tags.activity := .retiring (generationOf (e.number.toNat + 1))
        tags.done := .absent
        link.lastOp := some .clearDamage
        link.lastResult := .done } := by
  have hlong : s.jc.state.longOp = some .clearDamage := by rw [hstate]; rfl
  rw [State.clearingComplete, endLong_of_longOp hlong, ← openNumber_of_epoch he]
  rfl

end Clearing

/-! ### A discard completes (R108) -/

theorem requesterDone_discard {s : State} {c : DiscardCtx} (h : s.jc.state = .discarding c) :
    s.requesterDone .discard = s.discardComplete c := by
  simp only [State.requesterDone, h]

theorem resume_eq (a : AutoTimer) :
    a.resume = match a with | .idle => .idle | .running ms => .running ms | .paused ms => .running ms := by
  cases a <;> rfl

/-- R108: what a discard that completes leaves; no event is raised. -/
theorem discardComplete_of_discarding {s : State} {c : DiscardCtx} (h : s.jc.state = .discarding c) : s.discardComplete c =
    { s with
      jc.directory := s.jc.directory.drop c.count
      jc.tail := c.newTail
      jc.occupancy := s.jc.occupancy - c.freed
      jc.state := if c.fromUnguarded then .unguarded else .opened
      jc.timer := if s.lines.halt then s.jc.timer else s.jc.timer.resume
      link.lastOp := some .discard
      link.lastResult := .done } := by
  have hlong : s.jc.state.longOp = some .discard := by rw [h]; rfl
  rw [State.discardComplete, endLong_of_longOp hlong]

/-- Settles O36: each step of a clearing follows its rule, and the last answer of an update hands on to `clearingComplete` or
`discardComplete`. -/
theorem clearingAndDiscardComplete : Obligations.ClearingAndDiscardComplete := by
  refine ⟨fun s c e he hstate => ?clearing, fun s r t a c got data hreset hflight hwork hactive hrequester hstate => ?discard⟩
  case clearing =>
    have hnumber := openNumber_of_epoch he
    refine ⟨fun hstep hidle => ?empties, fun hstep hbusy => ?waits, fun hstep hrunning => ?clearWaits, clearingStep_anchor,
      fun hstep hall hlast => ?exhausted, fun hstep hall hnext => ?opens, fun hstep hidle => ?applies,
      fun r t a got data hreset hflight hwork hactive hrequester => ?completes⟩
    case empties =>
      rw [clearingStep_headWait hstep, if_neg (Bool.eq_false_iff.1 hidle)]
      rfl
    case waits =>
      rcases hstep with hstep | hstep
      · rw [clearingStep_headWait hstep, if_pos hbusy]
      · rw [clearingStep_apply hstep, if_pos hbusy]
    case clearWaits => rw [clearingStep_clear hstep, if_neg hrunning]
    case exhausted =>
      have hnone : epochAfter s.openNumber = none := by rw [hnumber, hlast, epochAfter_last]
      have hlong : s.jc.state.longOp = some .clearDamage := by rw [hstate]; rfl
      refine ⟨_, (clearingStep_clear hstep).trans (if_pos hall), ?_⟩
      rw [clearingOpen_of_exhausted hnone, endLong_of_longOp hlong]
      exact ⟨rfl, rfl, rfl, rfl, rfl, rfl⟩
    case opens =>
      have hopen : epochAfter s.openNumber = some (e.number + 1) := by rw [hnumber, epochAfter_of_ne hnext]
      rw [clearingStep_clear hstep, if_pos hall, clearingOpen_of_next hopen, ← toNat_next_epoch hnext]
      rfl
    case applies =>
      exact ⟨_, _, (clearingStep_apply hstep).trans (if_neg (Bool.eq_false_iff.1 hidle)), rfl, rfl, rfl, rfl, rfl, rfl, hnumber,
        rfl⟩
    case completes =>
      have hdone : (s.updateEnded a).requesterDone a.requester = (s.updateEnded a).clearingComplete := by
        rw [hrequester, requesterDone_clearing (s := s.updateEnded a) hstate]
      refine ⟨_, exec_update_ends hreset hflight hwork hactive hdone, ?_⟩
      rw [clearingComplete_of_epoch (s := s.updateEnded a) hstate he]
      exact ⟨rfl, rfl, rfl, rfl, rfl⟩
  case discard =>
    refine exec_update_ends hreset hflight hwork hactive ?_
    rw [hrequester, requesterDone_discard (s := s.updateEnded a) hstate,
      discardComplete_of_discarding (s := s.updateEnded a) hstate, resume_eq]
    rfl

end Sys2Proof.Machine
end

section
/-! SUPPORT. Rollback and replay: a rollback drains, is abandoned or writes its intent, walks back over its records, fails or
truncates the ring, opens the next epoch and completes (R120 to R132, R144); and a scan that fails (R142). -/

namespace Sys2Proof.Machine

/-! ### The end of a rollback's long operation and of its report (R132, R180) -/

/-- R180: the link at the end of a rollback, by whether a ROLLBACK command started it. -/
theorem endLong_link_of_rollingBack {s : State} {c : RollbackCtx} (h : s.jc.state = .rollingBack c) (r : LongResult) :
    (s.endLong r).link = if c.cause = .command then { s.link with lastOp := some .rollback, lastResult := r } else s.link := by
  unfold State.endLong
  by_cases hcause : c.cause = .command <;> simp [h, longOp_of_rollingBack, hcause]

theorem endLong_lastResult_of_rollingBack {s : State} {c : RollbackCtx} (h : s.jc.state = .rollingBack c) (r : LongResult) :
    (s.endLong r).link.lastResult = if c.cause = .command then r else s.link.lastResult := by
  rw [endLong_link_of_rollingBack h, apply_ite Link.lastResult]

theorem longOp_of_recovering {k : Ctl} (h : k.name = .recovering) : k.longOp = none := by
  cases k with
  | recovering => rfl
  | _ => contradiction

/-- R132, R180: the state with its long operation's result r written, and its report ended with outcome o. -/
def State.reportedEnd (r : LongResult) (o : ReportOutcome) (s : State) : State :=
  { s with
    link := (s.endLong r).link
    events.report := s.events.report.map fun x => { x with finish := some s.stamp, outcome := some o } }

theorem endLong_endReport (s : State) (r : LongResult) (o : ReportOutcome) :
    (s.endLong r).endReport o = s.reportedEnd r o := by
  rw [endLong_eq]
  rfl

/-! ### The steps of a rollback, and its draining (R120 to R122) -/

theorem noneMarked_eq_false {s : State} (h : ∃ q ∈ s.front.queue, q.marked = true) : s.noneMarked = false := by
  simpa [State.noneMarked] using h

section Steps

variable {s : State} {c : RollbackCtx}

theorem rollbackStep_drain (h : c.step = .drain) :
    s.rollbackStep c = if s.noneMarked then s.rollbackDrained c else none := by
  simp only [State.rollbackStep, h]

theorem rollbackStep_replay {w : Walk} (h : c.step = .replay w) : s.rollbackStep c =
    if w.left = 0 then some { s.truncate c.target 0 with jc.state := .rollingBack { c with step := .tagWait } } else none := by
  simp only [State.rollbackStep, h]

theorem rollbackStep_tagWait (h : c.step = .tagWait) :
    s.rollbackStep c = if s.tags.mayOpen (c.openNumber.toNat + 1) then some (s.rollbackOpen c) else none := by
  simp only [State.rollbackStep, h]

/-- Log 19: a drained rollback waits for the update of a reclaim made for a request given up. -/
theorem rollbackDrained_of_reclaim (h : s.jc.room = some .reclaim) : s.rollbackDrained c = none := by
  rw [State.rollbackDrained, h]

theorem rollbackDrained_of_unbroken (hbroken : s.openBroken = false) (hroom : s.jc.room = none) :
    s.rollbackDrained c = some (s.askIntent c) := by
  rw [State.rollbackDrained, hroom, hbroken]
  rfl

/-- Log 19: the rollback of a broken epoch does not wait for the unguard's update. -/
theorem rollbackDrained_of_broken (hbroken : s.openBroken = true) (hroom : s.jc.room ≠ some .reclaim) :
    s.rollbackDrained c = some s.rollbackAbandoned := by
  unfold State.rollbackDrained
  split
  case h_1 => rw [if_pos hbroken]
  case h_2 => rfl
  case h_3 hreclaim => exact absurd hreclaim hroom

end Steps

/-- R121: what an abandoned rollback leaves. -/
theorem rollbackAbandoned_eq (s : State) : s.rollbackAbandoned =
    { s with
      link := (s.endLong .notSafe).link
      jc.state := .unguarded
      jc.timer := s.startedTimer
      front.queue := unmarkAll s.front.queue } := by
  rw [State.rollbackAbandoned, endLong_eq]
  simp [startTimer_eq, State.startedTimer, State.unmark]

/-! ### The replay's walk (R124, R125) -/

/-- R124: the slots of a rollback's replay, in which no COMMIT record of the open epoch lies. -/
theorem replaySpan_of_rollback (c : Word) (s : State) : s.replaySpan c 0 =
    ((s.jc.directory.filter fun d => c ≤ d.number).map DirEntry.slots).sum +
      (match s.jc.epoch with
        | none => 0
        | some e => e.preImages) := by
  unfold State.replaySpan
  cases s.jc.epoch <;> rfl

/-- R124: the walk's next record is asked for, or nothing at the walk's end. -/
theorem readWalk_eq (w : Walk) (s : State) : s.readWalk w =
    { s with
      jc.work := if w.left = 0 then s.jc.work
        else some { owner := .replayRead, todo := recordReads s.base w.slot, got := [] } } := by
  unfold State.readWalk
  split <;> rfl

/-- R124: the walk goes on to the slot before, or stands at its end after its last slot. -/
theorem advanceWalk_eq {w : Walk} (hleft : 1 ≤ w.left) (s : State) : s.advanceWalk w =
    { s with
      jc.state := s.jc.state.setWalk { slot := slotBefore s.capacity w.slot, left := w.left - 1, expected := w.expected - 1 }
      jc.work := if w.left = 1 then s.jc.work
        else some { owner := .replayRead, todo := recordReads s.base (slotBefore s.capacity w.slot), got := [] } } := by
  have hend : w.left - 1 = 0 ↔ w.left = 1 := by omega
  rw [State.advanceWalk, readWalk_eq]
  simp only [hend]
  rfl

/-- R122, R124, R132: what the durable intent leaves. -/
theorem intentDone_eq (c : RollbackCtx) (s : State) : s.intentDone c =
    State.readWalk (s.replayWalk c.target 0)
      { s with
        events.report := some
          { cause := c.cause, target := some c.target, openAtStart := c.openNumber, replayed := 0, start := c.start,
            finish := none, outcome := none }
        jc.state := .rollingBack { c with step := .replay (s.replayWalk c.target 0) } } := rfl

theorem requesterDone_intent {s : State} {c : RollbackCtx} (h : s.jc.state = .rollingBack c) :
    s.requesterDone .intent = s.intentDone c := by
  simp only [State.requesterDone, h]

/-- Settles O27: a drained rollback is one of `rollbackDrained`'s three cases, and the last answer of the intent's update hands on
to `intentDone`. -/
theorem theIntentAndTheReplayBegin : Obligations.TheIntentAndTheReplayBegin := by
  refine ⟨fun s c hstate hstep hmarked => ?waits, fun s c hstate hstep hnone => ?drained,
    fun s r t a c got data hreset hflight hwork hactive hrequester hstate => ?durable⟩
  case waits =>
    rw [rollbackStep_drain hstep, noneMarked_eq_false hmarked]
    rfl
  case drained =>
    have hdrained : s.rollbackStep c = s.rollbackDrained c :=
      (rollbackStep_drain hstep).trans (if_pos ((noneMarked_iff s).2 hnone))
    refine ⟨fun hroom => hdrained.trans (rollbackDrained_of_reclaim hroom), fun hunbroken hroom => ?_,
      fun hbroken hroom => ?_⟩
    · exact ⟨_, _, hdrained.trans (rollbackDrained_of_unbroken hunbroken hroom), rfl, rfl, rfl, rfl, rfl, rfl, rfl, rfl, rfl⟩
    · refine ⟨_, hdrained.trans (rollbackDrained_of_broken hbroken hroom), ?_⟩
      rw [rollbackAbandoned_eq]
      exact ⟨rfl, rfl, rfl, rfl, rfl, rfl, endLong_lastResult_of_rollingBack hstate .notSafe⟩
  case durable =>
    have hdone : (s.updateEnded a).requesterDone a.requester = (s.updateEnded a).intentDone c := by
      rw [hrequester, requesterDone_intent (s := s.updateEnded a) hstate]
    refine ⟨_, (s.updateEnded a).replayWalk c.target 0, exec_update_ends hreset hflight hwork hactive hdone, ?_⟩
    rw [intentDone_eq, readWalk_eq]
    exact ⟨rfl, rfl, replaySpan_of_rollback c.target s, rfl, rfl, rfl, rfl, rfl, rfl, rfl, rfl, rfl⟩

/-! ### A record of the replay (R124 to R127) -/

theorem workDone_replayRead (s : State) (bytes : List Byte) : s.workDone .replayRead bytes = s.replayRecord bytes := by
  unfold State.workDone
  cases s.jc.state <;> rfl

theorem workDone_replayWrite (s : State) (bytes : List Byte) : s.workDone .replayWrite bytes = s.replayWritten := by
  unfold State.workDone
  cases s.jc.state <;> rfl

section Records

variable {s : State} {w : Walk} {bytes : List Byte} {x : Record} (hwalk : s.jc.state.walk = some w)
include hwalk

theorem replayRecord_of_none
    (h : validRecord w.slot s.anchor.format w.expected s.jc.state.replayTarget.1 s.jc.state.replayTarget.2 bytes = none) :
    s.replayRecord bytes = s.replayFailed := by
  simp only [State.replayRecord, hwalk, h]

theorem replayRecord_of_preImage {g : Nat} {p : List Byte}
    (h : validRecord w.slot s.anchor.format w.expected s.jc.state.replayTarget.1 s.jc.state.replayTarget.2 bytes = some x)
    (hbody : x.body = .preImage g p) :
    s.replayRecord bytes = s.startWork .replayWrite [.granuleWrite (byteAddr (g * 32)) p] := by
  simp only [State.replayRecord, hwalk, h, hbody]

theorem replayRecord_of_commit {i : CommitInfo}
    (h : validRecord w.slot s.anchor.format w.expected s.jc.state.replayTarget.1 s.jc.state.replayTarget.2 bytes = some x)
    (hbody : x.body = .commit i) : s.replayRecord bytes = s.advanceWalk w := by
  simp only [State.replayRecord, hwalk, h, hbody]

/-- R125: a pre-image written back is counted by the report, and the walk goes on. -/
theorem replayWritten_of_walk : s.replayWritten = State.advanceWalk w
    { s with events.report := s.events.report.map fun x => { x with replayed := x.replayed + 1 } } := by
  rw [State.replayWritten, hwalk]

end Records

/-- Settles O28: the transfers of the replay end in `replayRecord` and `replayWritten`, and where the walk goes is
`advanceWalk_eq`. -/
theorem theReplayTreatsItsRecords : Obligations.TheReplayTreatsItsRecords := by
  refine ⟨fun s r t w got data hreset hflight hwork _ => ?handed, fun s w bytes x hwalk hvalid => ?treated,
    fun s r t w got data hreset hflight hwork hwalk hleft => ?written⟩
  case handed => exact exec_okay_last hreset hflight hwork (workDone_replayRead _ _)
  case treated =>
    exact ⟨fun g p => replayRecord_of_preImage hwalk hvalid,
      fun i hbody hleft => (replayRecord_of_commit hwalk hvalid hbody).trans (advanceWalk_eq hleft s)⟩
  case written =>
    exact exec_okay_last hreset hflight hwork ((workDone_replayWrite _ _).trans
      ((replayWritten_of_walk (s := s.transferDone) hwalk).trans (advanceWalk_eq hleft _)))

/-! ### The replay or the scan fails (R126, R142, R144) -/

/-- R126, R144: what a replay that fails leaves on its way into DAMAGED. -/
theorem replayFailed_eq (s : State) : s.replayFailed = (s.reportedEnd .failed .damaged).enterDamaged .replay := by
  rw [State.replayFailed, endLong_endReport]

/-- A replay's transfer, a read's or a write's, is not made again: the replay fails. -/
theorem workFailed_replay {o : Owner} (h : o = .replayRead ∨ o = .replayWrite) (s : State) :
    o.retries = false ∧ s.workFailed o = s.replayFailed := by
  obtain rfl | rfl := h <;> exact ⟨rfl, rfl⟩

theorem scanFailed_of_scan {s : State} {c : RecoveryCtx} {count slot : Nat} (hstate : s.jc.state = .recovering c)
    (hstep : c.step = .scan count slot) : s.scanFailed = (s.scanPointers count slot).enterDamaged .scan := by
  simp only [State.scanFailed, hstate, hstep]

/-- R28: the controller in DAMAGED. -/
theorem enterDamaged_jc (s : State) (k : Cause) :
    (s.enterDamaged k).jc = { s.jc with state := .damaged k, timer := .idle, room := none, work := none } := rfl

/-- Settles O29: a replay's transfer is given up into `replayFailed`, the scan's into DAMAGED with the pointers of the records
counted. -/
theorem failedReadsOfReplayAndScanDamage : Obligations.FailedReadsOfReplayAndScanDamage := by
  refine ⟨⟨fun s w bytes hwalk => replayRecord_of_none hwalk, fun s r t rest o got hreset hflight hwork ho => ?error,
    fun s => ?failed⟩, fun s r t rest c e count slot got hreset hflight hwork hstate hstep he => ?scan⟩
  case error =>
    refine ⟨s.transferFailed, rfl, rfl, rfl, rfl, ?_⟩
    obtain ⟨hretries, hfailed⟩ := workFailed_replay ho s.transferFailed
    rw [exec_error_gives_up hreset hflight hwork rfl hretries, hfailed]
  case failed =>
    rw [replayFailed_eq]
    exact ⟨rfl, rfl, rfl, rfl, rfl, rfl, fun c hstate => endLong_link_of_rollingBack hstate .failed,
      fun hname => endLong_link_of_none (longOp_of_recovering hname) .failed⟩
  case scan =>
    have hfailed : s.transferFailed.workFailed .scan = (s.transferFailed.scanPointers count slot).enterDamaged .scan :=
      scanFailed_of_scan (s := s.transferFailed) hstate hstep
    refine ⟨_, exec_error_gives_up hreset hflight hwork rfl rfl, ?_⟩
    rw [hfailed, enterDamaged_jc, scanPointers_jc (s := s.transferFailed) he]
    exact ⟨rfl, rfl, rfl, rfl, rfl⟩

/-! ### The truncation (R128) -/

/-- R124: a target that is listed begins at its entry's first slot. -/
theorem firstSlotOf_of_entry {s : State} {c : Word} {d : DirEntry}
    (h : s.jc.directory.find? (fun x => x.number = c) = some d) : s.firstSlotOf c = d.firstSlot := by
  rw [State.firstSlotOf, h]

/-- R124: a target that is not listed is the open epoch. -/
theorem firstSlotOf_of_epoch {s : State} {c : Word} {e : OpenEpoch} (he : s.jc.epoch = some e)
    (h : ∀ d ∈ s.jc.directory, d.number ≠ c) : s.firstSlotOf c = e.firstSlot := by
  have hnone : s.jc.directory.find? (fun x => x.number = c) = none := by simpa using h
  rw [State.firstSlotOf, hnone, he]
  rfl

/-! ### The rollback opens the next epoch (R31, R129, R130) -/

/-- R129: the state in which the next epoch m has been opened, before its update is asked for. -/
def State.rollbackOpened (c : RollbackCtx) (m : Word) (s : State) : State :=
  { s.openEpoch m false with jc.state := .rollingBack { c with step := .anchor } }

/-- R129: the record of the next epoch, opened at head. -/
theorem rollbackOpened_epoch {c : RollbackCtx} (h : c.openNumber ≠ 0xFFFFFFFF) (s : State) :
    (s.rollbackOpened c (c.openNumber + 1)).jc.epoch = some
      { number := c.openNumber + 1, firstSlot := s.jc.head, firstSeq := s.jc.nextSeq, preImages := 0, writes := 0,
        broken := false, generation := generationOf (c.openNumber.toNat + 1) } := by
  rw [← toNat_next_epoch h]
  rfl

theorem rollbackOpen_of_next {s : State} {c : RollbackCtx} {m : Word} (h : epochAfter c.openNumber = some m) :
    s.rollbackOpen c = (s.rollbackOpened c m).startUpdate .completion (s.rollbackOpened c m).image := by
  rw [State.rollbackOpen, h]
  rfl

/-- R31: no epoch number is left. -/
theorem rollbackOpen_of_exhausted {s : State} {c : RollbackCtx} (h : epochAfter c.openNumber = none) :
    s.rollbackOpen c = (s.reportedEnd .failed .damaged).enterDamaged .exhausted := by
  rw [State.rollbackOpen, h, ← endLong_endReport]

/-! ### The rollback completes (R131) -/

theorem requesterDone_completion {s : State} {c : RollbackCtx} (h : s.jc.state = .rollingBack c) :
    s.requesterDone .completion = s.rollbackComplete := by
  simp only [State.requesterDone, h]

/-- R131: what a rollback that completes leaves. -/
theorem rollbackComplete_of_epoch {s : State} {e : OpenEpoch} (he : s.jc.epoch = some e) : s.rollbackComplete =
    { s.reportedEnd .done .complete with
      jc.state := .opened
      jc.timer := s.startedTimer
      front.queue := unmarkAll s.front.queue
      lines.ckptLatch := false
      tags.activity := .retiring (generationOf (e.number.toNat + 1))
      tags.done := .absent
      events.flags := if s.lines.ckptLatch then s.events.flags ||| 0x004 ||| 0x400 else s.events.flags ||| 0x004
      events.raisedSince := if s.lines.ckptLatch then s.events.raisedSince ||| 0x004 ||| 0x400
        else s.events.raisedSince ||| 0x004 } := by
  rw [State.rollbackComplete, endLong_endReport, ← openNumber_of_epoch he, State.startedTimer, ← endLong_policies s .done]
  cases s.lines.ckptLatch <;> rfl

/-- Settles O30: the replay's end truncates, `rollbackOpened` is what the tags let open, and the last answer of the completion
update hands on to `rollbackComplete`. -/
theorem theRollbackTruncatesAndCompletes : Obligations.TheRollbackTruncatesAndCompletes := by
  refine ⟨fun s c w hstep hleft => ?truncates, fun s c hstate hstep => ?opens,
    fun s r t a c e got data hreset hflight hwork hactive hrequester hstate he => ?completes⟩
  case truncates =>
    exact ⟨_, s.replaySpan c.target 0, (rollbackStep_replay hstep).trans (if_pos hleft), replaySpan_of_rollback c.target s,
      rfl, rfl, rfl, rfl, rfl, rfl, fun d => firstSlotOf_of_entry, fun e => firstSlotOf_of_epoch, rfl, rfl, rfl, rfl⟩
  case opens =>
    have hstepped (hdone : s.tags.done = .all ∨ s.tags.done = .gen (generationOf (c.openNumber.toNat + 1))) :
        s.rollbackStep c = some (s.rollbackOpen c) := (rollbackStep_tagWait hstep).trans (if_pos ((mayOpen_iff _ _).2 hdone))
    refine ⟨fun hwait => ?_, fun hdone hne => ?_, fun hdone hlast => ?_⟩
    · rw [rollbackStep_tagWait hstep, if_neg (mt (mayOpen_iff _ _).1 hwait)]
    · exact ⟨_, _, (hstepped hdone).trans (congrArg some (rollbackOpen_of_next (epochAfter_of_ne hne))), rfl,
        rollbackOpened_epoch hne s, rfl, rfl, rfl, rfl, rfl, rfl, rfl, rfl, rfl, rfl, rfl, rfl, rfl, rfl, rfl, rfl, rfl, rfl⟩
    · refine ⟨_, (hstepped hdone).trans (congrArg some (rollbackOpen_of_exhausted (by rw [hlast, epochAfter_last]))), ?_⟩
      exact ⟨rfl, rfl, rfl, endLong_lastResult_of_rollingBack hstate .failed, rfl, rfl⟩
  case completes =>
    have hdone : (s.updateEnded a).requesterDone a.requester = (s.updateEnded a).rollbackComplete := by
      rw [hrequester, requesterDone_completion (s := s.updateEnded a) hstate]
    refine ⟨_, exec_update_ends hreset hflight hwork hactive hdone, ?_⟩
    rw [rollbackComplete_of_epoch (s := s.updateEnded a) he]
    exact ⟨rfl, rfl, rfl, rfl, rfl, endLong_lastResult_of_rollingBack (s := s.updateEnded a) hstate .done, rfl, rfl, rfl, rfl,
      rfl, rfl⟩

end Sys2Proof.Machine
end

section
/-! SUPPORT. Power-up recovery: the transactions made again after an ERROR (R111, R137), the four courses that the scan's end chooses
from, the truncation after a replay, the next epoch opened, and the completion (R143 to R150). -/

namespace Sys2Proof.Machine

/-! ### A transaction is made again (R111, R137) -/

/-- R111, R137: an ERROR leaves a transfer that is made again as it is, its transaction still the next to be claimed. -/
theorem controllerResponse_retries {s : State} {w : Work} {t : Request} {rest : List Request} (hwork : s.jc.work = some w)
    (htodo : w.todo = t :: rest) (hretries : w.owner.retries = true) : s.controllerResponse .error = s := by
  simp [State.controllerResponse, hwork, htodo, hretries]

/-- R155, R160: an ERROR in flight for the controller raises MEMORY_ERROR and touches nothing of a transfer that is made again. -/
theorem exec_error_retries {s : State} {r t : Request} {w : Work} {rest : List Request} (hreset : s.inReset = false)
    (hflight : s.port.inFlight = some (.controller, r)) (hwork : s.jc.work = some w) (htodo : w.todo = t :: rest)
    (hretries : w.owner.retries = true) : exec (.memoryResponse .error) s =
      .next (State.finish s.claimWaits { s.raise .memoryError with port.inFlight := none }) := by
  show Host.Outcome.next (s.event (State.memoryResponded .error)) = _
  rw [event_of_live hreset, State.memoryResponded, hflight]
  exact congrArg (fun u => Host.Outcome.next (State.finish s.claimWaits u))
    (controllerResponse_retries (s := State.raise .memoryError { s with port.inFlight := none }) hwork htodo hretries)

/-- Settles O32: each of the five owners is one whose transaction is made again. -/
theorem anchorReadAndFormatRetry : Obligations.AnchorReadAndFormatRetry := by
  intro s r t rest o got hreset hflight hwork howner
  have hretries : o.retries = true := by
    obtain rfl | rfl | rfl | rfl | rfl := howner <;> rfl
  exact exec_error_retries hreset hflight hwork rfl hretries

/-! ### The course and its report (R143) -/

section Course

variable {c : RecoveryCtx}

theorem course_of_intent {target : Word} (h : c.intent = some target) (broken : Bool) : c.course broken = .redo := by
  simp [RecoveryCtx.course, h]

theorem course_of_broken (hintent : c.intent = none) (hfound : c.found = none) : c.course true = .broken := by
  simp [RecoveryCtx.course, hintent, hfound]

/-- R143: a COMMIT record found comes before the broken mark. -/
theorem course_of_found {i : CommitInfo} (hintent : c.intent = none) (hfound : c.found = some i) (broken : Bool) :
    c.course broken = .forward := by
  simp [RecoveryCtx.course, hintent, hfound]

theorem course_of_undo (hintent : c.intent = none) (hfound : c.found = none) : c.course false = .undo := by
  simp [RecoveryCtx.course, hintent, hfound]

end Course

/-- R132, R143: the state at the scan's end, with its pointers set and the report of course k begun. -/
def State.scanEnded (c : RecoveryCtx) (k : Course) (count head : Nat) (s : State) : State :=
  { s.scanPointers count head with
    events.report := some
      { cause := .recovery, target := c.reportTarget k, openAtStart := c.openNumber, replayed := 0, start := c.start,
        finish := none, outcome := none } }

/-- R143: the scan's end takes the course that the context and the open epoch's broken mark give. -/
theorem endScan_of_course {s : State} {c : RecoveryCtx} {k : Course} {e : OpenEpoch} (he : s.jc.epoch = some e)
    (h : c.course e.broken = k) (count head : Nat) :
    s.endScan c count head = (s.scanEnded c k count head).takeCourse c k := by
  subst h
  rw [State.endScan, openBroken_of_epoch (s := s.scanPointers count head) he]
  rfl

/-! ### The replay of a redo or an undo (R144, R148) -/

/-- R140, R144: the commit-found mark counts one record. -/
theorem commits_eq (c : RecoveryCtx) : c.commits = if c.found = none then 0 else 1 := by
  unfold RecoveryCtx.commits
  cases c.found <;> rfl

/-- R144: the slots of recovery's replay, the COMMIT record that the scan counted among them. -/
theorem replaySpan_of_recovery {s : State} {e : OpenEpoch} (he : s.jc.epoch = some e) (c : RecoveryCtx) (target : Word) :
    s.replaySpan target c.commits =
      ((s.jc.directory.filter fun d => target ≤ d.number).map DirEntry.slots).sum + e.preImages +
        (if c.found = none then 0 else 1) := by
  rw [State.replaySpan, he, commits_eq]
  rfl

/-- R124, R144: the walk begins at the slot before head, with the sequence number of the last record counted. -/
theorem replayWalk_of_scanEnded {s : State} {c : RecoveryCtx} {e : OpenEpoch} (he : s.jc.epoch = some e) (k : Course)
    (count head : Nat) (target : Word) : (s.scanEnded c k count head).replayWalk target c.commits =
      { slot := if head = 0 then s.capacity - 1 else head - 1
        left := ((s.jc.directory.filter fun d => target ≤ d.number).map DirEntry.slots).sum + e.preImages +
          (if c.found = none then 0 else 1)
        expected := e.firstSeq + BitVec.ofNat 32 count - 1 } := by
  have hseq : (s.scanEnded c k count head).jc.nextSeq = e.firstSeq + BitVec.ofNat 32 count :=
    congrArg Controller.nextSeq (scanPointers_jc he)
  rw [State.replayWalk, replaySpan_of_recovery (s := s.scanEnded c k count head) he, hseq]
  rfl

/-- R144, R148: a course's replay enters its step and asks for the walk's first record. -/
theorem beginRedo_eq (c : RecoveryCtx) (k : Course) (target : Word) (s : State) : s.beginRedo c k target =
    { s with
      jc.state := .recovering { c with step := .replay k (s.replayWalk target c.commits) }
      jc.work := if (s.replayWalk target c.commits).left = 0 then s.jc.work
        else some
          { owner := .replayRead, todo := recordReads s.base (s.replayWalk target c.commits).slot, got := [] } } := by
  rw [State.beginRedo, readWalk_eq]
  rfl

/-! ### The directory steps of a roll-forward (R146) -/

/-- R53: dropping the oldest entry neither reads nor writes the event unit. -/
theorem dropOldest_withEvents (s : State) (u : EventUnit) :
    State.dropOldest { s with events := u } = { s.dropOldest with events := u } := by
  unfold State.dropOldest
  dsimp only
  split <;> rfl

theorem overflowDrop_withEvents (s : State) (u : EventUnit) :
    State.overflowDrop { s with events := u } = { s.overflowDrop with events := u } := by
  unfold State.overflowDrop
  split
  · exact dropOldest_withEvents s u
  · rfl

theorem forcedDrop_withEvents (s : State) (u : EventUnit) :
    State.forcedDrop { s with events := u } = { s.forcedDrop with events := u } := by
  change (if s.free = 0 then State.dropOldest { s with events := u } else { s with events := u }) = _
  unfold State.forcedDrop
  split
  · exact dropOldest_withEvents s u
  · rfl

theorem closeEpoch_withEvents (d : DirEntry) (s : State) (u : EventUnit) :
    State.closeEpoch d { s with events := u } = { s.closeEpoch d with events := u } := by
  rw [State.closeEpoch, State.closeEpoch, ← forcedDrop_withEvents, ← overflowDrop_withEvents]
  rfl

theorem closeDrops_withEvents (d : DirEntry) (s : State) (u : EventUnit) :
    State.closeDrops d { s with events := u } = s.closeDrops d := by
  have hover : State.overflowDrop (State.appendEntry d { s with events := u }) =
      { (s.appendEntry d).overflowDrop with events := u } := overflowDrop_withEvents (s.appendEntry d) u
  rw [State.closeDrops, hover]
  rfl

/-- R146: the entry is built from the open-epoch record and the COMMIT record found. -/
theorem takeCourse_forward {s : State} {c : RecoveryCtx} {e : OpenEpoch} {i : CommitInfo} (he : s.jc.epoch = some e)
    (hi : c.found = some i) : s.takeCourse c .forward =
      { s.closeEpoch (entryOf e i) with
        jc.state := .recovering { c with dropped := s.closeDrops (entryOf e i), step := .tagWait .forward } } := by
  simp only [State.takeCourse, he, hi]

/-! ### The steps of RECOVERING (R144, R148, R149) -/

section Steps

variable {s : State} {c : RecoveryCtx} {k : Course}

theorem recoveryStep_replay {w : Walk} (h : c.step = .replay k w) (hleft : w.left = 0) : s.recoveryStep c =
    some { s.truncate s.jc.state.replayTarget.1 c.commits with jc.state := .recovering { c with step := .tagWait k } } := by
  simp only [State.recoveryStep, h, hleft, if_true]

theorem recoveryStep_tagWait (h : c.step = .tagWait k) :
    s.recoveryStep c = if s.tags.done = .all then some (s.recoveryOpen c k) else none := by
  simp only [State.recoveryStep, h]

/-- R144, R148: a redo goes back to the intent's target, an undo to the open epoch. -/
theorem replayTarget_of_recovering {w : Walk} {target : Word} (h : c.step = .replay k w)
    (ht : k = .redo ∧ c.intent = some target ∨ k = .undo ∧ target = c.openNumber) :
    (Ctl.replayTarget (.recovering c)).1 = target := by
  obtain ⟨rfl, hintent⟩ | ⟨rfl, rfl⟩ := ht
  · simp [Ctl.replayTarget, h, hintent]
  · simp [Ctl.replayTarget, h]

/-- R149: the state in which recovery has opened the next epoch m, before its update is asked for. -/
def State.recoveryOpened (c : RecoveryCtx) (k : Course) (m : Word) (s : State) : State :=
  { s.openEpoch m (k == .broken) with jc.state := .recovering { c with step := .anchor k } }

/-- R145, R149: the record of the next epoch, opened at head. -/
theorem recoveryOpened_epoch (h : c.openNumber ≠ 0xFFFFFFFF) : (s.recoveryOpened c k (c.openNumber + 1)).jc.epoch = some
    { number := c.openNumber + 1, firstSlot := s.jc.head, firstSeq := s.jc.nextSeq, preImages := 0, writes := 0,
      broken := decide (k = .broken), generation := generationOf (c.openNumber.toNat + 1) } := by
  rw [← toNat_next_epoch h]
  rfl

theorem recoveryOpen_of_next {m : Word} (h : epochAfter c.openNumber = some m) :
    s.recoveryOpen c k = (s.recoveryOpened c k m).startUpdate .recovery (s.recoveryOpened c k m).image := by
  rw [State.recoveryOpen, h]
  rfl

/-- R31, R149: no epoch number is left; a roll-forward has closed the open epoch, whose record goes. -/
theorem recoveryOpen_of_exhausted (h : epochAfter c.openNumber = none) : s.recoveryOpen c k = State.enterDamaged .exhausted
    { s.endReport .damaged with jc.epoch := if k = .forward then none else s.jc.epoch } := by
  rw [State.recoveryOpen, h]
  rfl

end Steps

/-! ### Recovery completes (R147, R150) -/

/-- R150: what recovery's completion leaves, before the waiting head is examined. -/
def State.recovered (c : RecoveryCtx) (k : Course) (s : State) : State :=
  let s1 :=
    (((s.endReport k.outcome).raise .recovered).raiseIf (k == .broken) .unguarded).raiseIf (k == .forward && c.dropped) .reclaimed
  let s2 : State :=
    { s1 with
      jc.state := if k = .broken then .unguarded else .opened
      jc.windowLost := s.jc.windowLost || c.changeLost k }
  (s2.startRetire s2.openNumber).startTimer

/-- R173: a flag raised leaves the report. -/
theorem raiseIf_report (s : State) (b : Bool) (e : Event) : (s.raiseIf b e).events.report = s.events.report := by
  unfold State.raiseIf
  split <;> rfl

section Complete

variable (s : State) (c : RecoveryCtx) (k : Course)

theorem recoveryComplete_eq : s.recoveryComplete c k = (s.recovered c k).examineHead := by
  simp [State.recoveryComplete, State.recovered]

theorem requesterDone_recovery {s : State} {c : RecoveryCtx} {k : Course} (hstate : s.jc.state = .recovering c)
    (hstep : c.step = .anchor k) : s.requesterDone .recovery = (s.recovered c k).examineHead := by
  simp only [State.requesterDone, hstate, hstep, recoveryComplete_eq]

theorem recovered_jc : (s.recovered c k).jc =
    { s.jc with
      state := if k = .broken then .unguarded else .opened
      windowLost := s.jc.windowLost || c.changeLost k
      timer := s.startedTimer } := by
  simp [State.recovered, State.startTimer, State.startedTimer]

/-- R150: completing recovery writes neither the windows, the front port, the lines nor the link. -/
theorem recovered_rest : (s.recovered c k).windows = s.windows ∧ (s.recovered c k).front = s.front ∧
    (s.recovered c k).lines = s.lines ∧ (s.recovered c k).link = s.link := by
  simp [State.recovered]

theorem recovered_report : (s.recovered c k).events.report =
    s.events.report.map fun x => { x with finish := some s.stamp, outcome := some k.outcome } :=
  (raiseIf_report _ _ _).trans (raiseIf_report _ _ _)

/-- R150: RECOVERED is raised, with UNGUARDED for a broken open epoch and RECLAIMED for an entry dropped. -/
theorem recovered_flags : (s.recovered c k).events.flags =
    match k with
    | .redo => s.events.flags ||| 0x008
    | .broken => s.events.flags ||| 0x008 ||| 0x020
    | .forward => if c.dropped then s.events.flags ||| 0x008 ||| 0x010 else s.events.flags ||| 0x008
    | .undo => s.events.flags ||| 0x008 := by
  cases k with
  | redo | broken | undo => rfl
  | forward => cases hdropped : c.dropped <;> rw [State.recovered, hdropped] <;> rfl

theorem recovered_tags {e : OpenEpoch} (he : s.jc.epoch = some e) : (s.recovered c k).tags =
    { s.tags with activity := .retiring (generationOf (e.number.toNat + 1)), done := .absent } := by
  simp [State.recovered, State.startRetire, TagUnit.startRetire, State.openNumber, he]

end Complete

/-- R147: a roll-forward loses the window change that its COMMIT record marks. -/
theorem changeLost_forward {c : RecoveryCtx} {i : CommitInfo} (hi : c.found = some i) : c.changeLost .forward = i.changed := by
  simp [RecoveryCtx.changeLost, hi]

theorem changeLost_of_ne_forward {k : Course} (h : k ≠ .forward) (c : RecoveryCtx) : c.changeLost k = false := by
  simp [RecoveryCtx.changeLost, h]

/-- Settles O34: the scan's end by the course taken, the two steps of RECOVERING that need no transaction, and the last answer of
recovery's update, which hands on to `recovered`. -/
theorem recoveryTakesItsCourseAndCompletes : Obligations.RecoveryTakesItsCourseAndCompletes := by
  refine ⟨fun s c e count head he => ?courses, fun s c k w e target hstate hstep hleft he htarget => ?truncates,
    fun s c k hstate hstep => ?opens,
    fun s r t a c k e got data hreset hflight hwork hactive hrequester hstate hstep he => ?completes⟩
  case courses =>
    intro p report walk reads
    have hended {k : Course} (hk : c.course e.broken = k) := endScan_of_course he hk count head
    have hwalk (k : Course) (target : Word) : (s.scanEnded c k count head).replayWalk target c.commits = walk target :=
      replayWalk_of_scanEnded he k count head target
    refine ⟨fun target hintent => ?redo, fun hintent hbroken hfound => ?broken, fun i hintent hfound => ?forward,
      fun hintent hbroken hfound => ?undo⟩
    case redo =>
      have hbegun : s.endScan c count head = (s.scanEnded c .redo count head).beginRedo c .redo target := by
        rw [hended (course_of_intent hintent _), State.takeCourse, hintent]
        rfl
      rw [hbegun, beginRedo_eq, hwalk]
      exact ⟨congrArg report hintent, rfl⟩
    case broken =>
      rw [hended (by rw [hbroken, course_of_broken hintent hfound])]
      exact ⟨rfl, rfl⟩
    case forward =>
      rw [hended (course_of_found hintent hfound _), takeCourse_forward (s := s.scanEnded c .forward count head) he hfound]
      rw [State.scanEnded, closeEpoch_withEvents, closeDrops_withEvents]
      exact ⟨rfl, rfl⟩
    case undo =>
      have hbegun : s.endScan c count head = (s.scanEnded c .undo count head).beginRedo c .undo c.openNumber :=
        hended (k := .undo) (by rw [hbroken, course_of_undo hintent hfound])
      rw [hbegun, beginRedo_eq, hwalk]
      exact ⟨rfl, rfl⟩
  case truncates =>
    have htruncated : s.recoveryStep c =
        some { s.truncate target c.commits with jc.state := .recovering { c with step := .tagWait k } } := by
      rw [recoveryStep_replay hstep hleft, hstate, replayTarget_of_recovering hstep htarget]
    exact ⟨_, s.replaySpan target c.commits, htruncated, replaySpan_of_recovery he c target, rfl, rfl, rfl, rfl, rfl, rfl,
      fun d => firstSlotOf_of_entry, firstSlotOf_of_epoch he, rfl, rfl, rfl, rfl⟩
  case opens =>
    have hstepped (hdone : s.tags.done = .all) : s.recoveryStep c = some (s.recoveryOpen c k) :=
      (recoveryStep_tagWait hstep).trans (if_pos hdone)
    refine ⟨fun hwait => (recoveryStep_tagWait hstep).trans (if_neg hwait), fun hdone hne => ?_, fun hdone hlast => ?_⟩
    · exact ⟨_, _, (hstepped hdone).trans (congrArg some (recoveryOpen_of_next (epochAfter_of_ne hne))), rfl,
        recoveryOpened_epoch hne, rfl, rfl, rfl, rfl, rfl, rfl, rfl, rfl, rfl, rfl, rfl, rfl, rfl, rfl, rfl, rfl, rfl, rfl⟩
    · exact ⟨_, (hstepped hdone).trans (congrArg some (recoveryOpen_of_exhausted (by rw [hlast, epochAfter_last]))),
        rfl, rfl, rfl, rfl, rfl, rfl⟩
  case completes =>
    have hdone : (s.updateEnded a).requesterDone a.requester = ((s.updateEnded a).recovered c k).examineHead := by
      rw [hrequester, requesterDone_recovery (s := s.updateEnded a) hstate hstep]
    have hjc := recovered_jc (s.updateEnded a) c k
    have hflags := recovered_flags (s.updateEnded a) c k
    obtain ⟨hwindows, hfront, hlines, hlink⟩ := recovered_rest (s.updateEnded a) c k
    refine ⟨(s.updateEnded a).recovered c k, exec_update_ends hreset hflight hwork hactive hdone, congrArg Controller.state hjc,
      ?report, ?raised, ?unguarded, ?reclaimed, ?lost, ?kept, recovered_tags (s.updateEnded a) c k he,
      congrArg Controller.timer hjc, congrArg Link.lastResult hlink, congrArg Link.lastOp hlink, hlines, hwindows, hfront⟩
    case report =>
      rw [recovered_report]
      cases k <;> rfl
    case raised =>
      rintro (rfl | rfl) <;> exact hflags
    case unguarded =>
      rintro rfl
      exact hflags
    case reclaimed =>
      rintro rfl
      exact hflags
    case lost =>
      rintro i rfl hi
      rw [hjc, changeLost_forward hi]
      rfl
    case kept =>
      intro hne
      rw [hjc, changeLost_of_ne_forward hne]
      exact Bool.or_false _

end Sys2Proof.Machine
end

section
/-! SUPPORT. A step in its two forms: a command at the front of the queue, and none (log 4). -/

namespace Sys2Proof.Machine

theorem step_of_command {s : State} {c : Instr} {rest : List Instr} (h : s.pending = c :: rest) :
    step s = exec c { s with pending := rest } := by
  rw [step, h]

theorem step_of_empty {s : State} (h : s.pending = []) : step s = .next s := by
  rw [step, h]

/-- Settles O1, by the two forms of the queue. -/
theorem stepRunsTheFrontCommand : Obligations.StepRunsTheFrontCommand :=
  ⟨fun _ _ _ => step_of_command rfl, fun _ => step_of_empty⟩

end Sys2Proof.Machine
end

section
/-! SUPPORT. The memory port and its arbiter: where the request path and the controller stand at the port, what a response leaves of
either, the grant of each claim, and the transaction that a transfer goes on to (R45, R100, R137, R156 to R161, R170). -/

namespace Sys2Proof.Machine

/-! ### A response of the request path leaves the controller alone (R160)

`ControllerKept s t` says that t has the controller's claim and operation of s, and its last grant. -/

structure ControllerKept (s t : State) : Prop where
  grant : t.port.lastGrant = s.port.lastGrant
  claim : t.port.ctlClaim = s.port.ctlClaim
  work : t.jc.work = s.jc.work
  state : t.jc.state = s.jc.state
  anchor : t.anchor = s.anchor

theorem ControllerKept.refl (s : State) : ControllerKept s s := ⟨rfl, rfl, rfl, rfl, rfl⟩

theorem ControllerKept.trans {r s t : State} (h : ControllerKept r s) (k : ControllerKept s t) : ControllerKept r t :=
  ⟨k.grant.trans h.grant, k.claim.trans h.claim, k.work.trans h.work, k.state.trans h.state, k.anchor.trans h.anchor⟩

@[simp] theorem perform_lastGrant (s : State) (counts : Bool) : (s.perform counts).port.lastGrant = s.port.lastGrant := by
  unfold State.perform
  split <;> rfl

@[simp] theorem perform_ctlClaim (s : State) (counts : Bool) : (s.perform counts).port.ctlClaim = s.port.ctlClaim := by
  unfold State.perform
  split <;> rfl

theorem respond_controllerKept (s : State) (st : Status) (data : List Byte) : ControllerKept s (s.respond st data) :=
  ⟨by simp, by simp, by simp, by simp, by simp⟩

theorem perform_controllerKept (s : State) (counts : Bool) : ControllerKept s (s.perform counts) :=
  ⟨by simp, by simp, by simp, by simp, by simp⟩

theorem ownOkay_controllerKept (s : State) (counts : Bool) (data : List Byte) : ControllerKept s (s.ownOkay counts data) := by
  have hcounted : ControllerKept s (if counts then s.countWrite else s) := by
    split
    · exact ⟨rfl, rfl, rfl, rfl, rfl⟩
    · exact .refl s
  exact hcounted.trans (respond_controllerKept _ _ _)

theorem saveReadOkay_controllerKept (s : State) (g t : Nat) (data : List Byte) : ControllerKept s (s.saveReadOkay g t data) := by
  unfold State.saveReadOkay
  simp only
  split
  · exact .refl s
  · exact ⟨rfl, rfl, rfl, rfl, rfl⟩

theorem saveComplete_controllerKept (s : State) (t : Nat) : ControllerKept s (s.saveComplete t) := by
  have hsaved : ControllerKept s (s.recordSaved t) := ⟨rfl, rfl, rfl, rfl, rfl⟩
  rw [saveComplete_eq]
  exact hsaved.trans (perform_controllerKept _ _)

/-- R66 to R70, R160: by the answer, and for an OKAY by the state of the save and the place of the head. -/
theorem requestResponse_controllerKept (s : State) (a : MemAnswer) : ControllerKept s (s.requestResponse a) := by
  unfold State.requestResponse
  split
  case h_1 =>
    split
    · exact respond_controllerKept _ _ _
    · exact .refl s
  case h_2 =>
    split
    case h_1 => exact saveReadOkay_controllerKept _ _ _ _
    case h_2 =>
      split
      · exact saveComplete_controllerKept _ _
      · exact ⟨rfl, rfl, rfl, rfl, rfl⟩
    case h_3 | h_4 =>
      split
      · exact ownOkay_controllerKept _ _ _
      · exact .refl s

/-! ### Where the request path stands -/

/-- The request path's claim, its save, the phase of its head, the requests queued and the responses returned. -/
structure RequestPlace where
  claim : Option Request
  save : Save
  phase : FrontPhase
  requests : List Request
  responses : List Response

def State.place (s : State) : RequestPlace :=
  { claim := s.port.reqClaim
    save := s.save
    phase := s.front.phase
    requests := s.front.queue.map Entry.req
    responses := s.front.responses }

/-- R3: the head is in progress, and no save waits in ROOM. -/
structure State.Underway (s : State) : Prop where
  progress : s.inProgress = true
  outside : ∀ g t, s.save ≠ .room g t

theorem underway_of_place {s t : State} (h : s.Underway) (hplace : t.place = s.place) : t.Underway := by
  have hsave : t.save = s.save := congrArg RequestPlace.save hplace
  have hphase : t.front.phase = s.front.phase := congrArg RequestPlace.phase hplace
  obtain ⟨hprogress, houtside⟩ := h
  refine ⟨?_, fun g n => ?_⟩
  · rw [← hprogress, State.inProgress, State.inProgress, hsave, hphase]
  · rw [hsave]
    exact houtside g n

/-- From s to t the arbiter's last grant stays, and with a request in progress outside ROOM the request path stays in its place. -/
structure PathKept (s t : State) : Prop where
  grant : t.port.lastGrant = s.port.lastGrant
  place : s.Underway → t.place = s.place

theorem PathKept.refl (s : State) : PathKept s s := ⟨rfl, fun _ => rfl⟩

theorem PathKept.trans {r s t : State} (h : PathKept r s) (k : PathKept s t) : PathKept r t :=
  ⟨k.grant.trans h.grant, fun hr => (k.place (underway_of_place hr (h.place hr))).trans (h.place hr)⟩

/-- An operation that leaves the port, and of the front port all but the marks. -/
theorem pathKept_of_place {s t : State} (hport : t.port = s.port) (hplace : t.place = s.place) : PathKept s t :=
  ⟨congrArg Port.lastGrant hport, fun _ => hplace⟩

theorem pathKept_of_same {s t : State} (h : t.port = s.port ∧ t.save = s.save ∧ t.front = s.front) : PathKept s t := by
  obtain ⟨hport, hsave, hfront⟩ := h
  exact pathKept_of_place hport (by rw [State.place, State.place, hport, hsave, hfront])

/-- What keeps the request path in its place still does so after an operation that leaves the port, the save and the front port. -/
theorem PathKept.after {r s t : State} (k : PathKept s t) (h : s.port = r.port ∧ s.save = r.save ∧ s.front = r.front) :
    PathKept r t :=
  (pathKept_of_same h).trans k

theorem map_req_markAll (q : List Entry) : (markAll q).map Entry.req = q.map Entry.req := by
  rw [markAll, List.map_map]
  rfl

theorem map_req_unmarkAll (q : List Entry) : (unmarkAll q).map Entry.req = q.map Entry.req := by
  rw [unmarkAll, List.map_map]
  rfl

/-- R14, R15: the marks of the requests are no part of the request path's place. -/
theorem place_withQueue {s : State} {q : List Entry} (h : q.map Entry.req = s.front.queue.map Entry.req) :
    State.place { s with front.queue := q } = s.place := by
  rw [State.place, State.place]
  exact congrArg (fun rs => RequestPlace.mk s.port.reqClaim s.save s.front.phase rs s.front.responses) h

theorem unmark_pathKept (s : State) : PathKept s s.unmark :=
  pathKept_of_place rfl (place_withQueue (map_req_unmarkAll _))

/-! ### The head examined -/

@[simp] theorem claimSaveRead_lastGrant (s : State) (g t : Nat) : (s.claimSaveRead g t).port.lastGrant = s.port.lastGrant := rfl

theorem reclaimStep_same (s : State) :
    s.reclaimStep.port = s.port ∧ s.reclaimStep.save = s.save ∧ s.reclaimStep.front = s.front := by
  simp [State.reclaimStep]

theorem unguardStep_same (s : State) :
    s.unguardStep.port = s.port ∧ s.unguardStep.save = s.save ∧ s.unguardStep.front = s.front := ⟨rfl, rfl, rfl⟩

theorem askRoom_pathKept (s : State) : PathKept s s.askRoom := by
  unfold State.askRoom
  split
  · exact pathKept_of_same (reclaimStep_same s)
  · exact pathKept_of_same (unguardStep_same s)

theorem roomStep_lastGrant {s t : State} {g n : Nat} (h : s.roomStep g n = some t) : t.port.lastGrant = s.port.lastGrant := by
  obtain rfl | rfl | rfl := roomStep_some h
  · rfl
  · exact (askRoom_pathKept s).grant
  · rfl

@[simp] theorem beginSave_lastGrant (s : State) (e : Entry) : (s.beginSave e).port.lastGrant = s.port.lastGrant := by
  obtain h | h | ⟨r, rfl, h | h⟩ := beginSave_cases e s
  · rw [h, perform_lastGrant]
  · rw [h, claimSaveRead_lastGrant]
  · rw [h, enterRoom_port]
  · rw [roomStep_lastGrant h, enterRoom_port]

theorem act_lastGrant {s t : State} {a : HeadAction} {e : Entry} (h : s.act a e = some t) :
    t.port.lastGrant = s.port.lastGrant := by
  cases a
  case wait r =>
    obtain ⟨-, ht⟩ : s.front.holdReason ≠ some r ∧ s.beginWait r = t := by simpa [State.act] using h
    rw [← ht, beginWait_port]
  all_goals
    cases h
    simp

/-- R13: an examination that changes anything finds no head in progress. -/
theorem headStep_some {s t : State} (h : s.headStep = some t) :
    s.inProgress = false ∧ ((∃ g n, s.roomStep g n = some t) ∨ ∃ a e, s.act a e = some t) := by
  unfold State.headStep at h
  split at h
  case isTrue => contradiction
  case isFalse hwaits =>
    refine ⟨Bool.eq_false_iff.mpr hwaits, ?_⟩
    split at h
    case h_1 => contradiction
    case h_2 =>
      split at h
      · exact .inr ⟨_, _, h⟩
      · split at h
        case h_1 => exact .inl ⟨_, _, h⟩
        case h_2 => exact .inr ⟨_, _, h⟩
        all_goals contradiction

theorem examineHead_pathKept (s : State) : PathKept s s.examineHead := by
  unfold State.examineHead
  split
  case h_1 => exact .refl s
  case h_2 t ht =>
    obtain ⟨hwaits, hmade⟩ := headStep_some ht
    refine ⟨?_, fun hs => absurd hs.progress (by simp [hwaits])⟩
    obtain ⟨g, n, hroom⟩ | ⟨a, e, hact⟩ := hmade
    · exact roomStep_lastGrant hroom
    · exact act_lastGrant hact

/-! ### The latches offered, and DAMAGED entered -/

theorem takeCommit_pathKept (s : State) (byCommand : Bool) : PathKept s (s.takeCommit byCommand) :=
  pathKept_of_place rfl (place_withQueue (map_req_markAll _))

theorem takeRollback_pathKept (s : State) (c : Word) (cause : ReportCause) : PathKept s (s.takeRollback c cause) :=
  pathKept_of_place rfl (place_withQueue (map_req_markAll _))

theorem offerCkpt_pathKept {s t : State} (h : s.offerCkpt = some t) : PathKept s t := by
  unfold State.offerCkpt at h
  split at h
  · cases h
    exact (takeCommit_pathKept _ _).after ⟨rfl, rfl, rfl⟩
  · contradiction

theorem offerFallback_pathKept {s t : State} (h : s.offerFallback = some t) : PathKept s t := by
  unfold State.offerFallback at h
  simp only at h
  split at h
  · split at h
    · cases h
      exact (takeRollback_pathKept _ _ _).after ⟨rfl, rfl, rfl⟩
    · split at h
      · cases h
        exact pathKept_of_same ⟨rfl, rfl, rfl⟩
      · contradiction
  · contradiction

theorem offerLatches_pathKept (s : State) : PathKept s s.offerLatches :=
  offerLatches_keeps (P := PathKept s) (fun _ h => h.trans (pathKept_of_same ⟨rfl, rfl, rfl⟩))
    (fun _ _ ht h => h.trans (offerCkpt_pathKept ht)) (fun _ _ ht h => h.trans (offerFallback_pathKept ht)) s (.refl s)

/-- R28: of the request path only the marks and a save in ROOM are touched. -/
theorem enterDamaged_pathKept (s : State) (k : Cause) : PathKept s (s.enterDamaged k) := by
  refine ⟨rfl, fun hs => ?_⟩
  have hsave : (s.enterDamaged k).save = s.save := by
    simp only [State.enterDamaged, raise_save]
    split
    case h_1 g n hroom => exact absurd hroom (hs.outside g n)
    case h_2 => rfl
  have hplace := place_withQueue (s := s) (map_req_unmarkAll s.front.queue)
  rw [← hplace, State.place, hsave]
  rfl

/-! ### A transfer of the controller ends -/

section Transfers

variable (s : State)

theorem readWalk_pathKept (w : Walk) : PathKept s (s.readWalk w) := by
  unfold State.readWalk
  split
  · exact .refl s
  · exact pathKept_of_same ⟨rfl, rfl, rfl⟩

theorem advanceWalk_pathKept (w : Walk) : PathKept s (s.advanceWalk w) :=
  (readWalk_pathKept _ _).after ⟨rfl, rfl, rfl⟩

theorem replayFailed_pathKept : PathKept s s.replayFailed := (enterDamaged_pathKept _ _).after (by simp)

theorem replayRecord_pathKept (bytes : List Byte) : PathKept s (s.replayRecord bytes) := by
  unfold State.replayRecord
  split
  case h_1 => exact .refl s
  case h_2 =>
    split
    case h_1 => exact replayFailed_pathKept s
    case h_2 =>
      split
      · exact pathKept_of_same ⟨rfl, rfl, rfl⟩
      · exact advanceWalk_pathKept _ _

theorem replayWritten_pathKept : PathKept s s.replayWritten := by
  unfold State.replayWritten
  split
  · exact .refl s
  · exact (advanceWalk_pathKept _ _).after ⟨rfl, rfl, rfl⟩

theorem judgeAnchors_pathKept (bytes : List Byte) : PathKept s (s.judgeAnchors bytes) := by
  unfold State.judgeAnchors
  split <;> exact pathKept_of_same ⟨rfl, rfl, rfl⟩

theorem closeEpoch_same (d : DirEntry) :
    (s.closeEpoch d).port = s.port ∧ (s.closeEpoch d).save = s.save ∧ (s.closeEpoch d).front = s.front := by
  obtain ⟨-, hsave, hfront⟩ := closeEpoch_rest s d
  refine ⟨?_, hsave, hfront⟩
  unfold State.closeEpoch State.forcedDrop State.overflowDrop
  split <;> split <;> simp

theorem beginRedo_pathKept (c : RecoveryCtx) (k : Course) (n : Word) : PathKept s (s.beginRedo c k n) :=
  (readWalk_pathKept _ _).after ⟨rfl, rfl, rfl⟩

theorem takeCourse_pathKept (c : RecoveryCtx) (k : Course) : PathKept s (s.takeCourse c k) := by
  cases k
  case redo | undo => exact beginRedo_pathKept s _ _ _
  case broken => exact pathKept_of_same ⟨rfl, rfl, rfl⟩
  case forward =>
    unfold State.takeCourse
    simp only
    split
    case h_1 => exact pathKept_of_same (closeEpoch_same s _)
    all_goals exact pathKept_of_same ⟨rfl, rfl, rfl⟩

theorem endScan_pathKept (c : RecoveryCtx) (count head : Nat) : PathKept s (s.endScan c count head) :=
  (takeCourse_pathKept _ _ _).after ⟨rfl, rfl, rfl⟩

theorem scanRecord_pathKept (c : RecoveryCtx) (count slot : Nat) (bytes : List Byte) :
    PathKept s (s.scanRecord c count slot bytes) := by
  unfold State.scanRecord
  simp only
  split
  case h_1 => exact endScan_pathKept _ _ _ _
  case h_2 =>
    split
    case h_1 => exact endScan_pathKept _ _ _ _
    case h_2 =>
      split
      · exact (endScan_pathKept _ _ _ _).after ⟨rfl, rfl, rfl⟩
      · exact pathKept_of_same ⟨rfl, rfl, rfl⟩

theorem scanFailed_pathKept : PathKept s s.scanFailed := by
  unfold State.scanFailed
  split
  case h_1 =>
    split
    · exact (enterDamaged_pathKept _ _).after ⟨rfl, rfl, rfl⟩
    all_goals exact enterDamaged_pathKept _ _
  case h_2 => exact enterDamaged_pathKept _ _

theorem commitRecordDone_pathKept (c : CommitCtx) (i : CommitInfo) : PathKept s (s.commitRecordDone c i) := by
  unfold State.commitRecordDone
  split
  case h_1 => exact .refl s
  case h_2 e he =>
    have hclosed : PathKept s (s.recordAdded.closeEpoch (entryOf e i)) := pathKept_of_same (closeEpoch_same s.recordAdded _)
    simp only
    split <;> exact hclosed.trans (pathKept_of_same ⟨rfl, rfl, rfl⟩)

/-- R86: the marks go, and the latches are offered. -/
theorem commitRecordFailed_pathKept : PathKept s s.commitRecordFailed := by
  have hunmarked : PathKept s ((s.endLong .failed).raise .sealFailed).unmark :=
    (unmark_pathKept _).after (by simp)
  exact hunmarked.trans ((offerLatches_pathKept _).after ⟨rfl, rfl, rfl⟩)

/-- R93. -/
theorem commitComplete_pathKept (c : CommitCtx) : PathKept s (s.commitComplete c) := by
  have hunmarked : PathKept s (((s.endLong .done).raise .committed).raiseIf c.dropped .reclaimed).unmark :=
    (unmark_pathKept _).after (by simp)
  exact hunmarked.trans (pathKept_of_same ⟨rfl, rfl, rfl⟩)

theorem intentDone_pathKept (c : RollbackCtx) : PathKept s (s.intentDone c) :=
  (readWalk_pathKept _ _).after ⟨rfl, rfl, rfl⟩

theorem intentFailed_pathKept : PathKept s s.intentFailed := by
  have hunmarked : PathKept s (s.endLong .failed).unmark := (unmark_pathKept _).after (by simp)
  exact hunmarked.trans ((offerLatches_pathKept _).after ⟨rfl, rfl, rfl⟩)

theorem rollbackComplete_pathKept : PathKept s s.rollbackComplete := by
  have hunmarked : PathKept s
      ((((s.endLong .done).endReport .complete).raise .rolledBack).raiseIf s.lines.ckptLatch .lineDiscarded).unmark :=
    (unmark_pathKept _).after (by simp)
  exact hunmarked.trans (pathKept_of_same ⟨rfl, rfl, rfl⟩)

theorem recoveryComplete_pathKept (c : RecoveryCtx) (k : Course) : PathKept s (s.recoveryComplete c k) := by
  rw [recoveryComplete_eq]
  exact (examineHead_pathKept _).after (by simp [State.recovered])

theorem discardComplete_pathKept (c : DiscardCtx) : PathKept s (s.discardComplete c) :=
  pathKept_of_same (by simp [State.discardComplete])

theorem clearingComplete_pathKept : PathKept s s.clearingComplete := pathKept_of_same (by simp [State.clearingComplete])

theorem reclaimDone_pathKept : PathKept s s.reclaimDone := by
  have hraised : PathKept s (s.raise .reclaimed) := pathKept_of_same ⟨rfl, rfl, rfl⟩
  unfold State.reclaimDone
  simp only
  split
  case h_1 =>
    split
    · exact pathKept_of_same ⟨rfl, rfl, rfl⟩
    · split
      · exact hraised.trans (pathKept_of_same (reclaimStep_same _))
      · exact hraised.trans (pathKept_of_same (unguardStep_same _))
  all_goals exact pathKept_of_same ⟨rfl, rfl, rfl⟩

/-- R60, R61: only a save in ROOM is released, so a request in progress keeps its place. -/
theorem unguardDone_pathKept : PathKept s s.unguardDone := by
  by_cases hroom : ∃ g n, s.save = .room g n
  · obtain ⟨g, n, hsave⟩ := hroom
    rw [unguardDone_of_room hsave]
    exact ⟨perform_lastGrant _ _, fun hs => absurd hsave (hs.outside g n)⟩
  · rw [unguardDone_of_not_room fun g n hsave => hroom ⟨g, n, hsave⟩]
    exact pathKept_of_same ⟨rfl, rfl, rfl⟩

/-- R101, R103: what follows an update, for each requester. -/
theorem requesterDone_pathKept (r : Requester) : PathKept s (s.requesterDone r) := by
  unfold State.requesterDone
  split
  case h_1 => exact reclaimDone_pathKept s
  case h_2 => exact unguardDone_pathKept s
  case h_3 => exact commitComplete_pathKept s _
  case h_4 => exact intentDone_pathKept s _
  case h_5 => exact rollbackComplete_pathKept s
  case h_6 =>
    split
    · exact recoveryComplete_pathKept s _ _
    all_goals exact .refl s
  case h_7 => exact discardComplete_pathKept s _
  case h_8 => exact clearingComplete_pathKept s
  case h_9 => exact .refl s

theorem requesterFailed_pathKept (r : Requester) : PathKept s (s.requesterFailed r) := by
  cases r
  case intent => exact intentFailed_pathKept s
  all_goals exact (enterDamaged_pathKept _ _).after (by simp)

theorem updateDone_pathKept : PathKept s s.updateDone := by
  unfold State.updateDone
  split
  · exact .refl s
  · exact (requesterDone_pathKept _ _).after ⟨rfl, rfl, rfl⟩

theorem updateFailed_pathKept : PathKept s s.updateFailed := by
  unfold State.updateFailed
  split
  · exact .refl s
  · exact (requesterFailed_pathKept _ _).after ⟨rfl, rfl, rfl⟩

theorem invalidate_pathKept (c : FormatCtx) : PathKept s (s.invalidate c) := by
  unfold State.invalidate
  split <;> exact pathKept_of_same ⟨rfl, rfl, rfl⟩

theorem scrubDone_pathKept (c : FormatCtx) (slot : Nat) : PathKept s (s.scrubDone c slot) := by
  unfold State.scrubDone
  split
  · exact pathKept_of_same ⟨rfl, rfl, rfl⟩
  · exact invalidate_pathKept s c

theorem formatWorkDone_pathKept (o : Owner) (c : FormatCtx) : PathKept s (s.formatWorkDone o c) := by
  unfold State.formatWorkDone
  split
  case h_1 => exact scrubDone_pathKept s _ _
  all_goals exact pathKept_of_same ⟨rfl, rfl, rfl⟩

/-- R160: the end of a transfer, for each owner of one. -/
theorem workDone_pathKept (o : Owner) (bytes : List Byte) : PathKept s (s.workDone o bytes) := by
  unfold State.workDone
  split
  case h_1 => exact judgeAnchors_pathKept s _
  case h_2 =>
    split
    · exact scanRecord_pathKept s _ _ _ _
    all_goals exact .refl s
  case h_3 => exact replayRecord_pathKept s _
  case h_4 => exact replayWritten_pathKept s
  case h_5 =>
    split
    · exact commitRecordDone_pathKept s _ _
    all_goals exact .refl s
  case h_6 => exact updateDone_pathKept s
  case h_7 => exact formatWorkDone_pathKept s _ _
  case h_8 => exact .refl s

/-- R160: a transfer given up, for each owner of one. -/
theorem workFailed_pathKept (o : Owner) : PathKept s (s.workFailed o) := by
  cases o
  case scan => exact scanFailed_pathKept s
  case replayRead | replayWrite => exact replayFailed_pathKept s
  case commitRecord => exact commitRecordFailed_pathKept s
  case update => exact updateFailed_pathKept s
  all_goals exact .refl s

theorem controllerResponse_pathKept (a : MemAnswer) : PathKept s (s.controllerResponse a) := by
  have hended : PathKept s { s with jc.work := none } := pathKept_of_same ⟨rfl, rfl, rfl⟩
  unfold State.controllerResponse
  split
  case h_1 => exact .refl s
  case h_2 =>
    split
    case h_1 => exact .refl s
    case h_2 =>
      split
      case h_1 =>
        simp only
        split
        · exact .refl s
        · exact hended.trans (workFailed_pathKept _ _)
      case h_2 =>
        simp only
        split
        · exact hended.trans (workDone_pathKept _ _ _)
        · exact pathKept_of_same ⟨rfl, rfl, rfl⟩

end Transfers

/-! ### A response reaches its own claimant (R155, R157, R160) -/

section Responses

variable {s : State} (a : MemAnswer)

/-- R155: what every response does before its owner acts. -/
def State.portFreed (a : MemAnswer) (s : State) : State :=
  State.raiseIf (a == MemAnswer.error) .memoryError { s with port.inFlight := none }

theorem memoryResponded_of_idle (h : s.port.inFlight = none) : s.memoryResponded a = s := by
  rw [State.memoryResponded, h]

theorem memoryResponded_of_request {r : Request} (h : s.port.inFlight = some (.request, r)) :
    s.memoryResponded a = (s.portFreed a).requestResponse a := by
  rw [State.memoryResponded, h]
  rfl

theorem memoryResponded_of_controller {r : Request} (h : s.port.inFlight = some (.controller, r)) :
    s.memoryResponded a = (s.portFreed a).controllerResponse a := by
  rw [State.memoryResponded, h]
  rfl

theorem portFreed_controllerKept (s : State) : ControllerKept s (s.portFreed a) := by
  constructor <;> simp [State.portFreed]

theorem portFreed_pathKept (s : State) : PathKept s (s.portFreed a) :=
  ⟨by simp [State.portFreed], fun _ => by simp [State.portFreed, State.place]⟩

theorem memoryResponded_controllerKept {r : Request} (h : s.port.inFlight = some (.request, r)) :
    ControllerKept s (s.memoryResponded a) := by
  rw [memoryResponded_of_request a h]
  exact (portFreed_controllerKept a s).trans (requestResponse_controllerKept _ a)

theorem memoryResponded_pathKept {r : Request} (h : s.port.inFlight = some (.controller, r)) :
    PathKept s (s.memoryResponded a) := by
  rw [memoryResponded_of_controller a h]
  exact (portFreed_pathKept a s).trans (controllerResponse_pathKept _ a)

/-- R158: no response is a grant. -/
theorem memoryResponded_lastGrant (s : State) : (s.memoryResponded a).port.lastGrant = s.port.lastGrant := by
  cases hflight : s.port.inFlight with
  | none => rw [memoryResponded_of_idle a hflight]
  | some t =>
    obtain ⟨c, r⟩ := t
    cases c with
    | request => exact (memoryResponded_controllerKept a hflight).grant
    | controller => exact (memoryResponded_pathKept a hflight).grant

/-- R161, log 3: with no transaction in flight the event has no effect of its own. -/
theorem exec_memoryResponse_of_idle (hreset : s.inReset = false) (h : s.port.inFlight = none) :
    exec (.memoryResponse a) s = .next (s.finish s.claimWaits) := by
  show Host.Outcome.next (s.event (State.memoryResponded a)) = _
  rw [event_of_live hreset, memoryResponded_of_idle a h]

end Responses

/-! ### The grants (R158, R161) -/

section Grants

variable {s : State} {r c : Request} {w : Bool}

theorem grant_request {p : Port} (h : p.reqClaim = some r) : p.grant .request =
    { p with reqClaim := none, inFlight := some (.request, r), lastGrant := .request, met := p.met || p.ctlClaim.isSome } := by
  simp [Port.grant, h]

theorem grant_controller {p : Port} (h : p.ctlClaim = some c) :
    p.grant .controller = { p with ctlClaim := none, inFlight := some (.controller, c), lastGrant := .controller } := by
  simp [Port.grant, h]

/-- R158: between two claims of which one waited, the alternation decides. -/
theorem arbitrate_of_waited (hfree : s.port.inFlight = none) (hreq : s.port.reqClaim = some r) (hctl : s.port.ctlClaim = some c) :
    s.arbitrate true = { s with port := s.port.grant s.port.lastGrant.other } := by
  simp [State.arbitrate, hfree, hreq, hctl]

theorem arbitrate_of_reqClaim (hfree : s.port.inFlight = none) (hreq : s.port.reqClaim = some r)
    (hctl : s.port.ctlClaim = none) : s.arbitrate w = { s with port := s.port.grant .request } := by
  simp [State.arbitrate, hfree, hreq, hctl]

/-- R161: of two claims raised on one event, the first time since the reset, the request path's is granted. -/
theorem arbitrate_of_first_meeting (hfree : s.port.inFlight = none) (hmet : s.port.met = false)
    (hreq : s.port.reqClaim = some r) (hctl : s.port.ctlClaim = some c) :
    s.arbitrate false = { s with port := s.port.grant .request } := by
  simp [State.arbitrate, hfree, hreq, hctl, hmet]

/-- R158: of two claims raised on one event, later, a free value says which is granted. -/
theorem arbitrate_of_later_meeting (hfree : s.port.inFlight = none) (hmet : s.port.met = true)
    (hreq : s.port.reqClaim = some r) (hctl : s.port.ctlClaim = some c) : s.arbitrate false =
      if Config.requestFirst s.freeIndex then { s.drawn with port := s.port.grant .request }
      else { s.drawn with port := s.port.grant .controller } := by
  simp [State.arbitrate, hfree, hreq, hctl, hmet]

/-- R158: a grant puts the transaction of the claimant granted in flight. -/
theorem grant_inFlight (p : Port) (k : Claimant) : (p.grant k).inFlight = p.inFlight ∨
    ∃ q, (p.grant k).inFlight = some (k, q) ∧ (p.grant k).lastGrant = k := by
  cases k with
  | request =>
    cases h : p.reqClaim with
    | none => exact .inl (by simp [Port.grant, h])
    | some q =>
      rw [grant_request h]
      exact .inr ⟨q, rfl, rfl⟩
  | controller =>
    cases h : p.ctlClaim with
    | none => exact .inl (by simp [Port.grant, h])
    | some q =>
      rw [grant_controller h]
      exact .inr ⟨q, rfl, rfl⟩

/-- R157, R158: a transaction in flight stays, and at a free port the claimant granted is the last grant. -/
theorem arbitrate_inFlight (s : State) (w : Bool) : (s.arbitrate w).port.inFlight = s.port.inFlight ∨
    s.port.inFlight = none ∧ ∃ k q, (s.arbitrate w).port.inFlight = some (k, q) ∧ (s.arbitrate w).port.lastGrant = k := by
  cases hfree : s.port.inFlight with
  | some t => exact .inl (by rw [State.arbitrate, hfree, if_pos (Option.isSome_some), hfree])
  | none =>
    have hgranted (k : Claimant) : (s.port.grant k).inFlight = none ∨
        ∃ k' q, (s.port.grant k).inFlight = some (k', q) ∧ (s.port.grant k).lastGrant = k' :=
      (grant_inFlight s.port k).imp (·.trans hfree) fun h => ⟨k, h⟩
    obtain h | ⟨k, h⟩ | ⟨k, h⟩ := arbitrate_cases w s <;> rw [h]
    · exact .inl hfree
    · exact (hgranted k).imp_right (And.intro rfl)
    · exact (hgranted k).imp_right (And.intro rfl)

end Grants

/-! ### A transfer goes on (R45, R100, R137, R156) -/

theorem controllerResponse_next {s : State} {t t2 : Request} {rest : List Request} {o : Owner} {got data : List Byte}
    (h : s.jc.work = some { owner := o, todo := t :: t2 :: rest, got := got }) : s.controllerResponse (.okay data) =
    { s with jc.work := some { owner := o, todo := t2 :: rest, got := got ++ data.take t.returnSize } } := by
  rw [State.controllerResponse, h]

/-- R155, R160: an answer in flight for the controller that is not the last of its transfer keeps the bytes read. -/
theorem exec_okay_next {s : State} {r t t2 : Request} {rest : List Request} {o : Owner} {got data : List Byte}
    (hreset : s.inReset = false) (hflight : s.port.inFlight = some (.controller, r))
    (hwork : s.jc.work = some { owner := o, todo := t :: t2 :: rest, got := got }) :
    exec (.memoryResponse (.okay data)) s = .next (State.finish s.claimWaits
      { s with
        port.inFlight := none
        jc.work := some { owner := o, todo := t2 :: rest, got := got ++ data.take t.returnSize } }) := by
  show Host.Outcome.next (s.event (State.memoryResponded (.okay data))) = _
  rw [event_of_live hreset, memoryResponded_of_controller _ hflight]
  exact congrArg (fun u => Host.Outcome.next (State.finish s.claimWaits u))
    (controllerResponse_next (s := { s with port.inFlight := none }) hwork)

/-- R156: nothing of the controller is outstanding without a claim and without a transaction of its own in flight. -/
theorem ctlOutstanding_eq_false {p : Port} (hclaim : p.ctlClaim = none) (hflight : ∀ r, p.inFlight ≠ some (.controller, r)) :
    p.ctlOutstanding = false := by
  unfold Port.ctlOutstanding
  rw [hclaim, Option.isSome_none, Bool.false_or]
  split
  case h_1 r h => exact absurd h (hflight r)
  all_goals rfl

theorem raiseCtlClaim_of_work {s : State} {w : Work} {t : Request} {rest : List Request} (hhalt : s.lines.halt = false)
    (hout : s.port.ctlOutstanding = false) (hwork : s.jc.work = some w) (htodo : w.todo = t :: rest) :
    s.raiseCtlClaim = { s with port.ctlClaim := some t } := by
  simp [State.raiseCtlClaim, hhalt, hout, hwork, htodo]

/-- Settles O15: the responses by their claimant, the grants by the claims that meet, and the transfer that goes on. -/
theorem thePortServesItsClaimants : Obligations.ThePortServesItsClaimants := by
  refine ⟨⟨fun a s => exec_memoryResponse_of_idle a, fun a s r hflight => ?request,
      fun a s r hflight hprogress houtside => ?controller,
      fun a s w => ⟨memoryResponded_lastGrant a s, arbitrate_inFlight s w⟩⟩,
    fun s hfree => ⟨fun r c hreq hctl hlast => ?turnOfRequest, fun r c hreq hctl hlast => ?turnOfController,
      fun w r hreq hctl => ?requestAlone, fun w c hreq hctl => arbitrate_of_ctlClaim w hfree hreq hctl,
      fun r c hmet hreq hctl => ?firstMeeting, fun r c hmet hreq hctl => ?laterMeeting⟩,
    fun s r t t2 rest o got data => exec_okay_next,
    fun s t rest o got hhalt hclaim hflight hwork =>
      raiseCtlClaim_of_work hhalt (ctlOutstanding_eq_false hclaim hflight) hwork rfl⟩
  case request =>
    obtain ⟨-, hclaim, hwork, hstate, hanchor⟩ := memoryResponded_controllerKept a hflight
    exact ⟨hclaim, hwork, hstate, hanchor⟩
  case controller =>
    have hplace := (memoryResponded_pathKept a hflight).place ⟨hprogress, houtside⟩
    exact ⟨congrArg RequestPlace.claim hplace, congrArg RequestPlace.save hplace, congrArg RequestPlace.phase hplace,
      congrArg RequestPlace.requests hplace, congrArg RequestPlace.responses hplace⟩
  case turnOfRequest =>
    simp [arbitrate_of_waited hfree hreq hctl, hlast, Claimant.other, grant_request hreq, hctl]
  case turnOfController =>
    rw [arbitrate_of_waited hfree hreq hctl, hlast, Claimant.other, grant_controller hctl]
  case requestAlone =>
    simp [arbitrate_of_reqClaim hfree hreq hctl, grant_request hreq, hctl]
  case firstMeeting =>
    simp [arbitrate_of_first_meeting hfree hmet hreq hctl, grant_request hreq, hctl]
  case laterMeeting =>
    rw [arbitrate_of_later_meeting hfree hmet hreq hctl, grant_request hreq, grant_controller hctl, hmet, Bool.true_or, ← hmet]
    split
    · exact .inl rfl
    · exact .inr rfl

end Sys2Proof.Machine
end

section
/-! SUPPORT. The stamp counter (R172). -/

namespace Sys2Proof.Machine

theorem exec_setStamp {s : State} (h : s.linkReady = true) (v : Word) : exec (.setStamp v) s = .next (s.runSetStamp v) :=
  congrArg Host.Outcome.next (linkCommand_of_ready h _)

theorem exec_getStamp {s : State} (h : s.linkReady = true) : exec .getStamp s = .next s.runGetStamp :=
  congrArg Host.Outcome.next (linkCommand_of_ready h _)

/-- R172: the counter is 32 bits wide and wraps. -/
theorem exec_stampIncrement {s : State} (h : s.inReset = false) : exec .stampIncrement s = .next { s with stamp := s.stamp + 1 } :=
  congrArg Host.Outcome.next (if_neg (Bool.eq_false_iff.1 h))

/-- The four bytes of a word read back as its number (R186). -/
theorem leNat_leBytes_word (w : Word) : leNat (leBytes 4 w.toNat) = w.toNat := by
  rw [leNat_leBytes, Nat.mod_eq_of_lt (show w.toNat < 256 ^ 4 from w.isLt)]

/-- Settles O40: outside reset the counter rises, and in a frame that is where a command executes SET STAMP loads it and GET STAMP
answers its four bytes, lowest first. -/
theorem theStampCounter : Obligations.TheStampCounter :=
  ⟨fun _ => exec_stampIncrement, fun s hready => ⟨exec_setStamp hready,
    leBytes 4 s.stamp.toNat, leBytes_length 4 _, leNat_leBytes_word s.stamp, exec_getStamp hready⟩⟩

end Sys2Proof.Machine
end

section
/-! SUPPORT. The lines: what a sampling event and a completed run do, what the request of a line does on its arrival, and the offers of
the two latches (R78, R86, R116 to R118, R123, R162 to R166). -/

namespace Sys2Proof.Machine

/-! ### Where a request of CKPT_REQ is taken (R78) -/

/-- R78: a commit is not taken under halt, with the mark set, or in a state that is neither OPEN nor UNGUARDED. -/
theorem canCommit_eq_false {s : State}
    (h : s.lines.halt = true ∨ s.mark = true ∨ s.name ≠ .opened ∧ s.name ≠ .unguarded) : s.canCommit = false := by
  rcases h with hhalt | hmark | ⟨hopened, hunguarded⟩
  · simp [State.canCommit, hhalt]
  · exact canCommit_of_mark hmark
  · simp [State.canCommit, hopened, hunguarded]

theorem canCommit_of_name {s : State} (h : s.name = .opened ∧ s.mark = false ∨ s.name = .unguarded)
    (hhalt : s.lines.halt = false) : s.canCommit = true :=
  canCommit_of_atRest ((atRest_iff s).2 h) hhalt

theorem ckptRequest_taken {s : State} (h : s.canCommit = true) : s.ckptRequest = s.takeCommit false := if_pos h

/-- R78, R165: a request that cannot be taken is latched, or discarded when the latch is full. -/
theorem ckptRequest_of_not_taken {s : State} (h : s.canCommit = false) : s.ckptRequest =
    if s.lines.ckptLatch then s.raise .lineDiscarded else { s with lines.ckptLatch := true } :=
  if_neg (Bool.eq_false_iff.1 h)

/-! ### Where a request of FALLBACK_REQ is taken, discarded or kept (R116) -/

theorem canFallback_of_opened {s : State} (hname : s.name = .opened) (hmark : s.mark = false) (hhalt : s.lines.halt = false) :
    s.canFallback = true := by
  simp [State.canFallback, hname, hmark, hhalt]

/-- R116: the states whose requests of FALLBACK_REQ are discarded. -/
def State.DropsFallback (s : State) : Prop :=
  s.name = .unguarded ∨ s.name = .rollingBack ∨ s.name = .unformatted ∨ s.name = .damaged

/-- R116: where a request of FALLBACK_REQ is neither taken nor discarded for the state's sake. -/
def State.KeepsFallback (s : State) : Prop :=
  s.name = .opened ∧ (s.mark = true ∨ s.lines.halt = true) ∨ s.name = .anchorRead ∨ s.name = .recovering ∨
    s.name = .committing ∨ s.name = .discarding ∨ s.name = .formatting ∨ s.name = .clearing

theorem State.DropsFallback.tests {s : State} (h : s.DropsFallback) : s.canFallback = false ∧ s.dropsFallback = true := by
  unfold State.canFallback State.dropsFallback
  rcases h with hname | hname | hname | hname <;> simp [hname]

theorem State.KeepsFallback.tests {s : State} (h : s.KeepsFallback) : s.canFallback = false ∧ s.dropsFallback = false := by
  unfold State.canFallback State.dropsFallback
  rcases h with ⟨hname, hmark | hhalt⟩ | hname | hname | hname | hname | hname | hname
  · simp [hname, hmark]
  · simp [hname, hhalt]
  all_goals simp [hname]

/-- R116: the target of a request taken is the open epoch. -/
theorem fallbackRequest_taken {s : State} {e : OpenEpoch} (h : s.canFallback = true) (he : s.jc.epoch = some e) :
    s.fallbackRequest = s.takeRollback e.number .fallbackLine := by
  rw [State.fallbackRequest, if_pos h, openNumber_of_epoch he]

theorem fallbackRequest_dropped {s : State} (h : s.DropsFallback) : s.fallbackRequest = s.raise .lineDiscarded := by
  obtain ⟨hcan, hdrops⟩ := h.tests
  simp [State.fallbackRequest, hcan, hdrops]

/-- R116, R165: a request that the state neither takes nor discards is latched, or discarded when the latch is full. -/
theorem fallbackRequest_kept {s : State} (h : s.KeepsFallback) : s.fallbackRequest =
    if s.lines.fallbackLatch then s.raise .lineDiscarded else { s with lines.fallbackLatch := true } := by
  obtain ⟨hcan, hdrops⟩ := h.tests
  simp [State.fallbackRequest, hcan, hdrops]

/-! ### The offer of each latch (R78, R117, R166) -/

theorem offerCkpt_of_empty {s : State} (h : s.lines.ckptLatch = false) : s.offerCkpt = none := by
  simp [State.offerCkpt, h]

theorem offerCkpt_taken {s : State} (hlatch : s.lines.ckptLatch = true) (h : s.canCommit = true) :
    s.offerCkpt = some (State.takeCommit false { s with lines.ckptLatch := false }) := by
  simp [State.offerCkpt, hlatch, h]

theorem offerCkpt_of_not_taken {s : State} (h : s.canCommit = false) : s.offerCkpt = none := by
  simp [State.offerCkpt, h]

theorem offerFallback_of_empty {s : State} (h : s.lines.fallbackLatch = false) : s.offerFallback = none := by
  simp [State.offerFallback, h]

theorem offerFallback_taken {s : State} {e : OpenEpoch} (hlatch : s.lines.fallbackLatch = true) (h : s.canFallback = true)
    (he : s.jc.epoch = some e) : s.offerFallback =
      some (State.takeRollback e.number .fallbackLine { s with lines.fallbackLatch := false }) := by
  simp [State.offerFallback, hlatch, h, openNumber_of_epoch he]

theorem offerFallback_dropped {s : State} (hlatch : s.lines.fallbackLatch = true) (h : s.DropsFallback) :
    s.offerFallback = some (State.raise .lineDiscarded { s with lines.fallbackLatch := false }) := by
  obtain ⟨hcan, hdrops⟩ := h.tests
  simp [State.offerFallback, hlatch, hcan, hdrops]

theorem offerFallback_kept {s : State} (h : s.KeepsFallback) : s.offerFallback = none := by
  obtain ⟨hcan, hdrops⟩ := h.tests
  simp [State.offerFallback, hcan, hdrops]

/-! ### Both offers (R86, R118, R123) -/

section Offers

variable {first : Bool} {s t : State} {a b : State → Option State}

/-- Of two steps of which one cannot be made, the other is the one made, with no free value drawn. -/
theorem eitherFirst_of_right_none (h : b s = none) : eitherFirst first s a b = a s := by
  unfold eitherFirst
  rw [h]
  cases a s <;> rfl

theorem eitherFirst_of_left_none (h : a s = none) : eitherFirst first s a b = b s := by
  unfold eitherFirst
  rw [h]
  cases b s <;> rfl

/-- Log 15: where both can be made, the free value drawn says which is first. -/
theorem eitherFirst_of_some {u v : State} (ha : a s = some u) (hb : b s = some v) :
    eitherFirst first s a b = if first then a s.drawn else b s.drawn := by
  unfold eitherFirst
  rw [ha, hb]

theorem offerStep_cases (s : State) : s.offerStep = none ∨ s.offerStep = s.offerCkpt ∨ s.offerStep = s.offerFallback ∨
    s.offerStep = s.drawn.offerCkpt ∨ s.offerStep = s.drawn.offerFallback := by
  cases hfallback : s.offerFallback with
  | none => exact .inr (.inl (eitherFirst_of_right_none hfallback))
  | some v =>
    cases hckpt : s.offerCkpt with
    | none => exact .inr (.inr (.inl ((eitherFirst_of_left_none hckpt).trans hfallback)))
    | some u =>
      have hboth := eitherFirst_of_some (first := Config.ckptFirst s.freeIndex) hckpt hfallback
      unfold State.offerStep
      rw [hboth]
      split
      · exact .inr (.inr (.inr (.inl rfl)))
      · exact .inr (.inr (.inr (.inr rfl)))

theorem offerLatches_of_none (h : s.offerStep = none) : s.offerLatches = s := by
  rw [State.offerLatches, h]

/-- R86, R123: behind the first offer made the other latch is offered once. -/
theorem offerLatches_of_some (h : s.offerStep = some t) : s.offerLatches = t.offerStep.getD t := by
  rw [State.offerLatches, h]

end Offers

/-! ### A sampling event (R163, R164) -/

/-- R163: the state with both samples taken, before the requests that they make. -/
def State.sampled (ckpt fallback : Bool) (s : State) : State :=
  { s with
    lines.ckpt := s.lines.ckpt.sample s.link.policies.qualify ckpt
    lines.fallback := s.lines.fallback.sample s.link.policies.qualify fallback }

/-- R163: an assertion is qualified by a sample at ASSERTED that completes the run of a line qualified as deasserted. -/
theorem requests_iff (count : BitVec 4) (level : Bool) (q : Qualifier) :
    q.requests count level = true ↔ level = true ∧ q.asserted = false ∧ count.toNat + 1 ≤ q.run + 1 := by
  cases level <;> simp [Qualifier.requests, Qualifier.completes]

theorem requests_eq_false {count : BitVec 4} {level : Bool} {q : Qualifier}
    (h : ¬(level = true ∧ q.asserted = false ∧ count.toNat + 1 ≤ q.run + 1)) : q.requests count level = false :=
  Bool.eq_false_iff.2 (mt (requests_iff count level q).1 h)

theorem exec_lineSamplingEvent {s : State} (h : s.inReset = false) (ckpt fallback : Bool) :
    exec (.lineSamplingEvent ckpt fallback) s = .next ((s.sampleLines ckpt fallback).finish s.claimWaits) :=
  congrArg Host.Outcome.next (event_of_live h (State.sampleLines ckpt fallback))

section Sampling

variable {s : State} {ckpt fallback : Bool}

/-- R163: a sample that qualifies no assertion makes no request. -/
theorem sampleLines_of_none (hckpt : s.lines.ckpt.requests s.link.policies.qualify ckpt = false)
    (hfallback : s.lines.fallback.requests s.link.policies.qualify fallback = false) :
    s.sampleLines ckpt fallback = s.sampled ckpt fallback := by
  simp only [State.sampleLines, hckpt, hfallback]
  rfl

theorem sampleLines_of_ckpt (hckpt : s.lines.ckpt.requests s.link.policies.qualify ckpt = true)
    (hfallback : s.lines.fallback.requests s.link.policies.qualify fallback = false) :
    s.sampleLines ckpt fallback = (s.sampled ckpt fallback).ckptRequest := by
  simp only [State.sampleLines, hckpt, hfallback]
  rfl

theorem sampleLines_of_fallback (hckpt : s.lines.ckpt.requests s.link.policies.qualify ckpt = false)
    (hfallback : s.lines.fallback.requests s.link.policies.qualify fallback = true) :
    s.sampleLines ckpt fallback = (s.sampled ckpt fallback).fallbackRequest := by
  simp only [State.sampleLines, hckpt, hfallback]
  rfl

/-- R118, log 15: of two requests made on one event a free value says which is first. -/
theorem sampleLines_of_both (hckpt : s.lines.ckpt.requests s.link.policies.qualify ckpt = true)
    (hfallback : s.lines.fallback.requests s.link.policies.qualify fallback = true) :
    s.sampleLines ckpt fallback = if Config.ckptFirst s.freeIndex then (s.sampled ckpt fallback).drawn.ckptRequest.fallbackRequest
      else (s.sampled ckpt fallback).drawn.fallbackRequest.ckptRequest := by
  simp only [State.sampleLines, hckpt, hfallback]
  rfl

end Sampling

/-! ### The event of a completed run (R163, log 7) -/

theorem exec_lineQualify {s : State} (h : s.inReset = false) (l : LineRun) :
    exec (.lineQualify l) s = .next ((s.qualify l).finish s.claimWaits) :=
  congrArg Host.Outcome.next (event_of_live h (State.qualify l))

/-- R163, R164: a sample that completes the run turns the qualified level over and begins a run anew. -/
theorem sample_opposite {count : BitVec 4} {q : Qualifier} (h : count.toNat + 1 ≤ q.run + 1) :
    q.sample count (!q.asserted) = { asserted := !q.asserted, run := 0 } := by
  rw [Qualifier.sample, if_neg (Bool.not_ne_self _), if_pos h]

theorem qualify_ckpt (s : State) (other : Bool) : s.qualify (.ckpt other) =
    if s.link.policies.qualify.toNat + 1 ≤ s.lines.ckpt.run + 1 then s.sampleLines (!s.lines.ckpt.asserted) other else s := by
  simp only [State.qualify, completes_opposite, decide_eq_true_eq]

theorem qualify_fallback (s : State) (other : Bool) : s.qualify (.fallback other) =
    if s.link.policies.qualify.toNat + 1 ≤ s.lines.fallback.run + 1 then s.sampleLines other (!s.lines.fallback.asserted)
    else s := by
  simp only [State.qualify, completes_opposite, decide_eq_true_eq]

section Completed

variable {s : State} (hreset : s.inReset = false) (other : Bool)
include hreset

/-- Log 7: where the sample completes the run, the event is the sampling event, and the line's level is turned over by it. -/
theorem exec_lineQualify_ckpt (hrun : s.link.policies.qualify.toNat + 1 ≤ s.lines.ckpt.run + 1) :
    exec (.lineQualify (.ckpt other)) s = exec (.lineSamplingEvent (!s.lines.ckpt.asserted) other) s ∧
      ∃ u : State, exec (.lineQualify (.ckpt other)) s = .next (u.finish s.claimWaits) ∧
        u.lines.ckpt = { asserted := !s.lines.ckpt.asserted, run := 0 } := by
  have hsampling : s.qualify (.ckpt other) = s.sampleLines (!s.lines.ckpt.asserted) other := by
    rw [qualify_ckpt, if_pos hrun]
  rw [exec_lineQualify hreset, exec_lineSamplingEvent hreset, hsampling]
  exact ⟨rfl, _, rfl, (sampleLines_qualifiers _ _ s).1.trans (sample_opposite hrun)⟩

theorem exec_lineQualify_fallback (hrun : s.link.policies.qualify.toNat + 1 ≤ s.lines.fallback.run + 1) :
    exec (.lineQualify (.fallback other)) s = exec (.lineSamplingEvent other (!s.lines.fallback.asserted)) s ∧
      ∃ u : State, exec (.lineQualify (.fallback other)) s = .next (u.finish s.claimWaits) ∧
        u.lines.fallback = { asserted := !s.lines.fallback.asserted, run := 0 } := by
  have hsampling : s.qualify (.fallback other) = s.sampleLines other (!s.lines.fallback.asserted) := by
    rw [qualify_fallback, if_pos hrun]
  rw [exec_lineQualify hreset, exec_lineSamplingEvent hreset, hsampling]
  exact ⟨rfl, _, rfl, (sampleLines_qualifiers _ _ s).2.trans (sample_opposite hrun)⟩

end Completed

/-- Settles O41: a sampling event by the requests it makes, a completed run as the sampling event that completes it, the request and the
offer of each line by whether the state takes, drops or keeps it, and both offers by which of them can be made. -/
theorem theLinesAreSampledAndQualify : Obligations.TheLinesAreSampledAndQualify := by
  refine ⟨fun s a b hreset => ?sampling, fun s other hreset => ?completed, fun s => ?requests, fun s => ?offers,
    fun s => ?both⟩
  case sampling =>
    intro q sampled asserts t
    rw [exec_lineSamplingEvent hreset]
    refine ⟨fun hckpt hfallback => ?_, fun hckpt hfallback => ?_, fun hckpt hfallback => ?_, fun hckpt hfallback => ?_⟩
    · rw [sampleLines_of_none (requests_eq_false hckpt) (requests_eq_false hfallback)]
      rfl
    · rw [sampleLines_of_ckpt ((requests_iff ..).2 hckpt) (requests_eq_false hfallback)]
      rfl
    · rw [sampleLines_of_fallback (requests_eq_false hckpt) ((requests_iff ..).2 hfallback)]
      rfl
    · refine ⟨s.sampleLines a b, ?_, rfl⟩
      rw [sampleLines_of_both ((requests_iff ..).2 hckpt) ((requests_iff ..).2 hfallback)]
      split
      · exact .inl rfl
      · exact .inr rfl
  case completed =>
    refine ⟨exec_lineQualify_ckpt hreset other, exec_lineQualify_fallback hreset other, fun hshort => ?_, fun hshort => ?_⟩
    · rw [exec_lineQualify hreset, qualify_ckpt, if_neg hshort.not_ge]
    · rw [exec_lineQualify hreset, qualify_fallback, if_neg hshort.not_ge]
  case requests =>
    refine ⟨fun hname hhalt => ckptRequest_taken (canCommit_of_name hname hhalt),
      fun hnot => ckptRequest_of_not_taken (canCommit_eq_false hnot), fun e he hname hmark hhalt => ?_,
      fallbackRequest_dropped, fallbackRequest_kept⟩
    rw [fallbackRequest_taken (canFallback_of_opened hname hmark hhalt) he, takeRollback_of_epoch he]
    rfl
  case offers =>
    refine ⟨offerCkpt_of_empty, fun hlatch hname hhalt => offerCkpt_taken hlatch (canCommit_of_name hname hhalt),
      fun hnot => offerCkpt_of_not_taken (canCommit_eq_false hnot), offerFallback_of_empty,
      fun e hlatch he hname hmark hhalt => ?_, offerFallback_dropped, offerFallback_kept⟩
    rw [offerFallback_taken hlatch (canFallback_of_opened hname hmark hhalt) he,
      takeRollback_of_epoch (s := { s with lines.fallbackLatch := false }) he]
    rfl
  case both =>
    refine ⟨eitherFirst_of_right_none, eitherFirst_of_left_none, offerStep_cases s, offerLatches_of_none,
      fun t ht => ⟨fun hnone => ?_, fun u hu => ?_⟩⟩
    · rw [offerLatches_of_some ht, hnone]
      rfl
    · rw [offerLatches_of_some ht, hu]
      rfl

end Sys2Proof.Machine
end

section
/-! SUPPORT. The outputs READY, EVT_N and MISO, and the codes that the management link reports (R171, R174, R177, R190, R191). -/

namespace Sys2Proof.Machine

/-! ### The pins -/

/-- R171: with no halt READY follows the controller's state. -/
theorem ready_iff (s : State) : s.ready = true ↔ s.lines.halt = false ∧
    (s.name = .opened ∨ s.name = .unguarded ∨ s.name = .unformatted ∨ s.name = .committing ∨ s.name = .discarding) := by
  unfold State.ready
  rw [Bool.and_eq_true, Bool.not_eq_true']
  exact and_congr_right fun _ => by cases s.name <;> simp

/-- R174: the flags that the mask lets through assert EVT_N, but not while PRST_N is asserted. -/
theorem evtAsserted_iff (s : State) : s.evtAsserted = true ↔ s.inReset = false ∧ s.events.flags &&& s.events.mask ≠ 0 := by
  simp [State.evtAsserted]

theorem miso_of_high {l : Link} (h : l.csLow = false) : l.miso = none := by
  simp [Link.miso, h]

/-- R177: the first ANSWER position carries the result code, those after it the response bytes in turn. -/
theorem miso_of_answer {l : Link} {a : Answer} {k : Nat} (hlow : l.csLow = true) (ha : l.answer = some a)
    (hpos : l.pos = .answer k) : l.miso = some (if k = 0 then a.result.code else a.response.getD (k - 1) 0xFF) := by
  simp [Link.miso, hlow, ha, hpos]

/-- R177, log 30: outside ANSWER a frame's positions carry 0xFF. -/
theorem miso_of_no_answer {l : Link} (hlow : l.csLow = true) (h : ∀ k, l.pos ≠ .answer k) : l.miso = some 0xFF := by
  unfold Link.miso
  rw [hlow]
  cases hpos : l.pos with
  | answer k => exact absurd hpos (h k)
  | idle | command | arguments | turnaround | overrun => rfl

/-! ### The generation bytes (R191) -/

/-- A generation is one byte with its five upper bits clear. -/
theorem gen_byte (g : Gen) : g.setWidth 8 = BitVec.ofNat 8 g.toNat := (BitVec.ofNat_toNat 8 g).symm

/-- Settles O42: the pins by `ready_iff`, `evtAsserted_iff` and the positions of MISO; the codes are tables, read row by row. -/
theorem theOutputsAndTheirCodes : Obligations.TheOutputsAndTheirCodes := by
  refine ⟨fun s => ⟨ready_iff s, evtAsserted_iff s⟩,
    fun l => ⟨miso_of_high, fun a hlow ha => ⟨fun hpos => ?result, fun k hpos => ?response⟩, miso_of_no_answer⟩,
    rfl, rfl, rfl, rfl, rfl, rfl, rfl, ⟨rfl, fun g => ?retiring, rfl⟩, ⟨rfl, gen_byte, rfl⟩, rfl⟩
  case result => exact miso_of_answer hlow ha hpos
  case response => exact miso_of_answer hlow ha hpos
  case retiring => rw [Sweep.bytes, gen_byte]

end Sys2Proof.Machine
end

section
/-! SUPPORT. Frames of the management link: where they begin and end, how the decoder moves on, and the command that a frame's last byte
executes (R177, R178, R190). -/

namespace Sys2Proof.Machine

/-! ### Where a frame begins and ends (R178) -/

theorem startFrame_of_high {s : State} (hreset : s.inReset = false) (hcs : s.link.csLow = false) :
    s.startFrame = { s with link.csLow := true, link.pos := .command, link.answer := none } := by
  simp [State.startFrame, hreset, hcs]

theorem startFrame_in_reset {s : State} (hreset : s.inReset = true) : s.startFrame = { s with link.csLow := true } :=
  if_pos hreset

/-- CS_N that is low already is followed, which changes nothing. -/
theorem startFrame_of_low {s : State} (hcs : s.link.csLow = true) : s.startFrame = s := by
  have hlevel : { s with link.csLow := true } = s := by rw [← hcs]
  unfold State.startFrame
  split
  · exact hlevel
  · rfl

theorem endFrame_in_reset {s : State} (hreset : s.inReset = true) : s.endFrame = { s with link.csLow := false } := if_pos hreset

theorem endFrame_of_live {s : State} (hreset : s.inReset = false) : s.endFrame =
    { s with
      events.flags := s.flagsAfterFrame
      events.capture := none
      events.raisedSince := 0
      link.csLow := false
      link.pos := .idle } := if_neg (Bool.eq_false_iff.1 hreset)

/-- R175, R178: the end of a frame writes CS_N's level, the decoder's position, and the flags with their capture. -/
theorem endFrame_writes (s : State) : ∃ flags capture since pos, s.endFrame =
    { s with
      events.flags := flags
      events.capture := capture
      events.raisedSince := since
      link.csLow := false
      link.pos := pos } ∧ (s.inReset = false → pos = .idle) := by
  rcases Bool.eq_false_or_eq_true s.inReset with hreset | hlive
  · exact ⟨_, _, _, _, endFrame_in_reset hreset, fun hlive => absurd (hreset.symm.trans hlive) nofun⟩
  · exact ⟨_, _, _, _, endFrame_of_live hlive, fun _ => rfl⟩

/-! ### The end of a byte position (R177, R178) -/

theorem exec_bytePositionEnd {s : State} (h : s.inReset = false) (b : Byte) :
    exec (.bytePositionEnd b) s = .next (s.endByte b) :=
  congrArg Host.Outcome.next (if_neg (Bool.eq_false_iff.1 h))

theorem endByte_ignored {s : State} (h : s.link.pos = .idle ∨ s.link.pos = .overrun) (b : Byte) : s.endByte b = s := by
  rcases h with h | h <;> rw [State.endByte, h]

theorem endByte_turnaround {s : State} (h : s.link.pos = .turnaround) (b : Byte) :
    s.endByte b = { s with link.pos := .answer 0 } := by
  rw [State.endByte, h]

theorem endByte_answer {s : State} {k : Nat} {a : Answer} (h : s.link.pos = .answer k) (ha : s.link.answer = some a) (b : Byte) :
    s.endByte b = { s with link.pos := if k < a.response.length then .answer (k + 1) else .overrun } := by
  rw [State.endByte, h, ha]
  rfl

theorem endByte_command {s : State} (h : s.link.pos = .command) (b : Byte) : s.endByte b = s.afterByte b [] := by
  rw [State.endByte, h]

theorem endByte_arguments {s : State} {code : Byte} {got : List Byte} (h : s.link.pos = .arguments code got) (b : Byte) :
    s.endByte b = s.afterByte code (got ++ [b]) := by
  rw [State.endByte, h]

/-- R177: a byte that names no command executes at its own end. -/
theorem afterByte_unlisted {code : Byte} (h : commandShape code = none) (got : List Byte) (s : State) :
    s.afterByte code got = s.runUnknown := by
  rw [State.afterByte, h]
  rfl

theorem afterByte_short {code : Byte} {got : List Byte} {n r : Nat} (h : commandShape code = some (n, r)) (hshort : got.length ≠ n)
    (s : State) : s.afterByte code got = { s with link.pos := .arguments code got } := by
  rw [State.afterByte, h]
  exact if_neg hshort

theorem afterByte_full {code : Byte} {got : List Byte} {n r : Nat} (h : commandShape code = some (n, r)) (hfull : got.length = n)
    (s : State) : s.afterByte code got = s.runFrame (frameCommand code got) := by
  rw [State.afterByte, h]
  exact if_pos hfull

/-- Settles O43: the begin and the end of a frame by CS_N's level and by reset, the end of a byte by the decoder's position. -/
theorem framesMoveTheDecoder : Obligations.FramesMoveTheDecoder := by
  refine ⟨⟨fun s hreset hcs => congrArg Host.Outcome.next (startFrame_of_high hreset hcs),
      fun s hcs => congrArg Host.Outcome.next (startFrame_of_low hcs), fun s => ?ends,
      fun s hreset => ⟨congrArg Host.Outcome.next (startFrame_in_reset hreset),
        congrArg Host.Outcome.next (endFrame_in_reset hreset)⟩⟩,
    fun s b hreset => ?bytes⟩
  case ends =>
    obtain ⟨flags, capture, since, pos, hend, hidle⟩ := endFrame_writes s
    exact ⟨_, congrArg Host.Outcome.next hend, rfl, hidle, rfl, rfl, rfl, rfl, rfl, rfl, rfl, rfl, rfl, rfl, rfl, rfl, rfl, rfl, rfl,
      rfl, rfl, rfl, rfl⟩
  case bytes =>
    rw [exec_bytePositionEnd hreset]
    refine ⟨fun h => ?_, fun h => ?_, fun k a h ha => ?_, fun n r h hshape hn => ?_, fun code got n r h hshape hn => ?_,
      fun h hshape => ?_⟩
    · rw [endByte_ignored h]
    · rw [endByte_turnaround h]
    · rw [endByte_answer h ha]
    · rw [endByte_command h, afterByte_short (got := []) hshape hn.symm]
    · rw [endByte_arguments h, afterByte_short hshape (by simpa using hn)]
    · rw [endByte_command h, afterByte_unlisted hshape]
      rfl

/-! ### The command that a frame's bytes spell (R190) -/

/-- A code that R190 does not list spells an unknown command, whatever follows it. -/
theorem frameCommand_unlisted {code : Byte} (h : commandShape code = none) (args : List Byte) :
    frameCommand code args = .unknownCommand code := by
  unfold commandShape at h
  unfold frameCommand
  split at h
  case h_21 => rfl
  all_goals contradiction

/-- R178: the last byte of a well-formed command's frame runs the command that the frame's bytes spell. -/
theorem afterByte_of_frameBytes {i : Instr} {code : Byte} {args : List Byte} (hwell : i.wellFormed = true)
    (hbytes : frameBytes i = some (code, args)) (s : State) : s.afterByte code args = s.runFrame i := by
  obtain ⟨hspells, hcount⟩ := frame_statement i hwell code args hbytes
  cases hshape : commandShape code with
  | none =>
    rw [afterByte_unlisted hshape, ← hspells, frameCommand_unlisted hshape]
    rfl
  | some shape => rw [afterByte_full hshape (hcount shape hshape), hspells]

/-- R178, log 5: the row of a command that a frame can spell is the command's execution event. -/
theorem exec_of_frameBytes {i : Instr} {f : Byte × List Byte} (h : frameBytes i = some f) (s : State) :
    exec i s = .next (s.linkCommand (State.runFrame i)) := by
  cases i
  case powerUp | prstAssert | prstWithdraw | requestAccept | holdExpiry | memoryResponse | autoCommitExpiry | lineQualify |
    retireSweepEnd | fullClearEnd | haltBegin | haltEnd | stampIncrement | frameStart | frameEnd | lineSamplingEvent |
    bytePositionEnd => contradiction
  all_goals rfl

theorem linkReady_of_command {s : State} (hreset : s.inReset = false) (hpos : s.link.pos = .command) : s.linkReady = true := by
  simp [State.linkReady, Link.canExecute, hreset, hpos]

theorem linkReady_of_arguments {s : State} {code : Byte} {got : List Byte} (hreset : s.inReset = false)
    (hpos : s.link.pos = .arguments code got) : s.linkReady = true := by
  simp [State.linkReady, Link.canExecute, hreset, hpos]

/-- R178: a frame that is ready for the command runs it on the command's own row. -/
theorem exec_of_ready {i : Instr} {f : Byte × List Byte} {s : State} (hready : s.linkReady = true) (h : frameBytes i = some f) :
    exec i s = .next (s.runFrame i) := by
  rw [exec_of_frameBytes h, linkCommand_of_ready hready]

/-- R177: a link command that comes after its frame's own is ignored. -/
theorem linkCommand_of_not_ready {s : State} (h : s.linkReady = false) (f : State → State) : s.linkCommand f = s :=
  if_neg (Bool.eq_false_iff.1 h)

/-- Settles O44: the byte that completes a frame runs what its bytes spell, and so does the command's own row. -/
theorem frameBytesExecuteTheirCommand : Obligations.FrameBytesExecuteTheirCommand := by
  refine ⟨⟨fun s i code hreset hwell hbytes hpos => ?command, fun s i code b args hreset hwell hbytes hpos => ?arguments⟩,
    fun s code hready => exec_of_ready (i := .unknownCommand code) hready rfl, fun s i f hready hbytes => ?late⟩
  case command =>
    rw [exec_bytePositionEnd hreset, endByte_command hpos, afterByte_of_frameBytes hwell hbytes,
      exec_of_ready (linkReady_of_command hreset hpos) hbytes]
  case arguments =>
    rw [exec_bytePositionEnd hreset, endByte_arguments hpos, afterByte_of_frameBytes hwell hbytes,
      exec_of_ready (linkReady_of_arguments hreset hpos) hbytes]
  case late => rw [exec_of_frameBytes hbytes, linkCommand_of_not_ready hready]

end Sys2Proof.Machine
end

section
/-! SUPPORT. Events and settings of the management link: READ EVENTS and the end of its frame (R175), SET EVENT MASK (R176), SET POLICY
(R184) and LINK RESET (R185). -/

namespace Sys2Proof.Machine

/-! ### READ EVENTS (R175) -/

theorem exec_readEvents {s : State} (h : s.linkReady = true) : exec .readEvents s = .next s.runReadEvents :=
  congrArg Host.Outcome.next (linkCommand_of_ready h _)

/-- The twelve flags fit the two bytes that report them. -/
theorem leNat_leBytes_flags (flags : BitVec 12) : leNat (leBytes 2 flags.toNat) = flags.toNat := by
  rw [leNat_leBytes, Nat.mod_eq_of_lt (flags.isLt.trans (by decide))]

/-- R175: a capture whose frame is clocked out to its last response byte clears the captured flags that were not raised again. -/
theorem flagsAfterFrame_whole {s : State} {c : BitVec 12} (hc : s.events.capture = some c) (hpos : s.link.pos = .overrun) :
    s.flagsAfterFrame = s.events.flags &&& ~~~(c &&& ~~~s.events.raisedSince) := by
  simp [State.flagsAfterFrame, hc, hpos]

theorem flagsAfterFrame_early {s : State} {c : BitVec 12} (hc : s.events.capture = some c) (hpos : s.link.pos ≠ .overrun) :
    s.flagsAfterFrame = s.events.flags := by
  simp [State.flagsAfterFrame, hc, hpos]

/-- Settles O45: the report is the flags' two bytes, and the end of the frame leaves `flagsAfterFrame`. -/
theorem readEventsLosesNoEvent : Obligations.ReadEventsLosesNoEvent := by
  refine ⟨fun s hready => ⟨leBytes 2 s.events.flags.toNat, leBytes_length 2 _, leNat_leBytes_flags _, exec_readEvents hready⟩,
    fun s e => rfl, fun s c hreset hc => ?_⟩
  exact ⟨_, congrArg Host.Outcome.next (endFrame_of_live hreset), rfl, flagsAfterFrame_whole hc, flagsAfterFrame_early hc⟩

/-! ### SET EVENT MASK (R176) -/

theorem exec_setEventMask {s : State} (h : s.linkReady = true) (v : Half) :
    exec (.setEventMask v) s = .next (s.runSetEventMask v) :=
  congrArg Host.Outcome.next (linkCommand_of_ready h _)

/-- The four bits beyond the twelfth are clear exactly in the values below 4,096. -/
theorem upperBits_eq_zero_iff (v : Half) : v &&& 0xF000 = 0 ↔ v.toNat < 4096 := by
  have hv := v.isLt
  calc v &&& 0xF000 = 0
    _ ↔ v >>> 12 <<< 12 = 0 := by rw [BitVec.shiftLeft_ushiftRight]; rfl
    _ ↔ v.toNat < 4096 := by
      rw [← BitVec.toNat_inj]
      rw [BitVec.toNat_shiftLeft, BitVec.toNat_ushiftRight, Nat.shiftLeft_eq, Nat.shiftRight_eq_div_pow]
      change v.toNat / 4096 * 4096 % 65536 = 0 ↔ v.toNat < 4096
      omega

theorem runSetEventMask_refused {v : Half} (h : v &&& 0xF000 ≠ 0) (s : State) : s.runSetEventMask v = s.refuse .badArgument 0 :=
  if_pos (Nat.le_of_not_lt fun hlt => h ((upperBits_eq_zero_iff v).2 hlt))

theorem runSetEventMask_done {v : Half} (h : v &&& 0xF000 = 0) (s : State) :
    s.runSetEventMask v = State.answer .done [] { s with events.mask := v.setWidth 12 } :=
  if_neg (Nat.not_le_of_lt ((upperBits_eq_zero_iff v).1 h))

theorem inReset_of_linkReady {s : State} (h : s.linkReady = true) : s.inReset = false := by
  simp only [State.linkReady, Bool.and_eq_true, Bool.not_eq_true'] at h
  exact h.1

/-- R174: outside reset EVT_N follows the flags and the mask. -/
theorem evtAsserted_of_live {s : State} (h : s.inReset = false) : s.evtAsserted = decide (s.events.flags &&& s.events.mask ≠ 0) := by
  rw [Bool.eq_iff_iff, evtAsserted_iff, decide_eq_true_iff, h]
  exact and_iff_right rfl

/-- Settles O46: the refusal and the new mask by the four upper bits, EVT_N by the flags and the mask then in force. -/
theorem setEventMask : Obligations.SetEventMask := by
  intro s v hready
  rw [exec_setEventMask hready]
  refine ⟨fun h => ?_, fun h => ⟨_, rfl, ?_, ?_⟩⟩
  · rw [runSetEventMask_refused h]
    rfl
  · rw [runSetEventMask_done h]
    rfl
  · rw [runSetEventMask_done h]
    have hlive := inReset_of_linkReady hready
    exact evtAsserted_of_live (s := State.answer .done [] { s with events.mask := v.setWidth 12 }) hlive

/-! ### SET POLICY (R184) -/

theorem exec_setPolicy {s : State} (h : s.linkReady = true) (k : Byte) (v : Half) :
    exec (.setPolicy k v) s = .next (s.runSetPolicy k v) :=
  congrArg Host.Outcome.next (linkCommand_of_ready h _)

/-- R190: a selector above 3 names no policy. -/
theorem policies_set_unnamed {k : Byte} (h : 3 < k.toNat) (p : Policies) (v : Half) : p.set k v = none := by
  have hne (n : Byte) (hn : n.toNat ≤ 3) : k ≠ n := fun he => by rw [he] at h; omega
  rw [Policies.set, if_neg (hne 0 (by decide)), if_neg (hne 1 (by decide)), if_neg (hne 2 (by decide)),
    if_neg (hne 3 (by decide))]

theorem policies_set_reclaim_off (p : Policies) : p.set 0 0 = some { p with reclaim := false } := rfl

theorem policies_set_reclaim_on (p : Policies) : p.set 0 1 = some { p with reclaim := true } := rfl

/-- R184: no value but 0 and 1 says whether the ring is reclaimed. -/
theorem policies_set_reclaim_refused {v : Half} (h0 : v ≠ 0) (h1 : v ≠ 1) (p : Policies) : p.set 0 v = none :=
  (if_neg h0).trans (if_neg h1)

theorem policies_set_autoCommit (p : Policies) (v : Half) : p.set 1 v = some { p with autoCommit := v } := rfl

theorem policies_set_holdLimit (p : Policies) (v : Half) : p.set 2 v = some { p with holdLimit := v } := rfl

theorem policies_set_qualify {v : Half} (h : v.toNat ≤ 15) (p : Policies) :
    p.set 3 v = some { p with qualify := v.setWidth 4 } :=
  if_neg h.not_gt

theorem policies_set_qualify_refused {v : Half} (h : ¬v.toNat ≤ 15) (p : Policies) : p.set 3 v = none :=
  if_pos (Nat.lt_of_not_le h)

theorem exec_setPolicy_refused {s : State} {k : Byte} {v : Half} (hready : s.linkReady = true)
    (h : s.link.policies.set k v = none) : exec (.setPolicy k v) s = .next (s.answer .badArgument []) := by
  rw [exec_setPolicy hready, State.runSetPolicy, h]
  rfl

theorem exec_setPolicy_done {s : State} {k : Byte} {v : Half} {p : Policies} (hready : s.linkReady = true)
    (h : s.link.policies.set k v = some p) :
    exec (.setPolicy k v) s = .next (State.answer .done [] { s with link.policies := p }) := by
  rw [exec_setPolicy hready, State.runSetPolicy, h]

/-! ### LINK RESET (R185) -/

theorem exec_linkReset {s : State} (h : s.linkReady = true) : exec .linkReset s = .next s.runLinkReset :=
  congrArg Host.Outcome.next (linkCommand_of_ready h _)

/-- R21: a staged table equal to the committed one clears the staged-differs flag. -/
theorem stage_committed (w : WindowUnit) : w.stage w.committed = { w with staged := w.committed, stagedDiffers := false } := by
  simp [WindowUnit.stage, WindowUnit.workOut, differ]

/-- R185: the policies and the mask take their values of the reset (R174, R184). -/
theorem runLinkReset_eq (s : State) : s.runLinkReset = State.answer .done []
    { s with
      events.flags := 0
      events.mask := 0x2EE
      link.policies := { reclaim := true, autoCommit := 0, holdLimit := 0, qualify := 3 }
      link.lastOp := none
      link.lastResult := .none
      lines.ckptLatch := false
      lines.fallbackLatch := false
      windows.staged := s.windows.committed
      windows.stagedDiffers := false } := by
  rw [State.runLinkReset, stage_committed]
  rfl

/-- Settles O50: SET POLICY by the selector and, for the two policies whose values are limited, by the value; LINK RESET by
`runLinkReset_eq`. -/
theorem policiesAreSetAndReset : Obligations.PoliciesAreSetAndReset := by
  refine ⟨fun s v hready => ⟨?reclaim, exec_setPolicy_done hready (policies_set_autoCommit _ v),
    exec_setPolicy_done hready (policies_set_holdLimit _ v), ?qualify,
    fun k hk => exec_setPolicy_refused hready (policies_set_unnamed hk _ v)⟩, fun s hready => ?reset⟩
  case reclaim =>
    split
    case isTrue h =>
      subst h
      exact exec_setPolicy_done hready (policies_set_reclaim_off _)
    case isFalse h0 =>
      split
      case isTrue h =>
        subst h
        exact exec_setPolicy_done hready (policies_set_reclaim_on _)
      case isFalse h1 => exact exec_setPolicy_refused hready (policies_set_reclaim_refused h0 h1 _)
  case qualify =>
    split
    case isTrue h => exact exec_setPolicy_done hready (policies_set_qualify h _)
    case isFalse h => exact exec_setPolicy_refused hready (policies_set_qualify_refused h _)
  case reset =>
    rw [exec_linkReset hready, runLinkReset_eq]
    rfl

end Sys2Proof.Machine
end

section
/-! SUPPORT. GET STATUS: where each field stands in its 24 bytes, and when the ring's pointers are absent (R182, R191). -/

namespace Sys2Proof.Machine

theorem exec_getStatus {s : State} (h : s.linkReady = true) : exec .getStatus s = .next (s.answer .done s.statusBytes) :=
  congrArg Host.Outcome.next (linkCommand_of_ready h _)

@[simp] theorem pointerBytes_length (absent : Bool) (n : Nat) : (pointerBytes absent n).length = 3 := leBytes_length 3 _

theorem statusBytes_length (s : State) : s.statusBytes.length = 24 := by
  simp [State.statusBytes]

/-! ### The fields (R191) -/

/-- R191: a byte made of eight flags carries each in its own bit. -/
theorem flags_bits (a b c d e f g h : Bool) :
    let flags := BitVec.ofNat 8
      (bitAt 0 a + bitAt 1 b + bitAt 2 c + bitAt 3 d + bitAt 4 e + bitAt 5 f + bitAt 6 g + bitAt 7 h)
    flags.getLsbD 0 = a ∧ flags.getLsbD 1 = b ∧ flags.getLsbD 2 = c ∧ flags.getLsbD 3 = d ∧ flags.getLsbD 4 = e ∧
      flags.getLsbD 5 = f ∧ flags.getLsbD 6 = g ∧ flags.getLsbD 7 = h := by
  revert a b c d e f g h
  decide +kernel

theorem statusBytes_codes (s : State) :
    s.statusBytes.getD 0 0 = s.name.code ∧ s.statusBytes.getD 1 0 = causeCode s.damageCause ∧
      s.statusBytes.getD 22 0 = longOpCode s.link.lastOp ∧ s.statusBytes.getD 23 0 = s.link.lastResult.code :=
  ⟨rfl, rfl, rfl, rfl⟩

theorem statusBytes_flags (s : State) :
    (s.statusBytes.getD 2 0).getLsbD 0 = s.mark ∧ (s.statusBytes.getD 2 0).getLsbD 1 = s.lines.halt ∧
      (s.statusBytes.getD 2 0).getLsbD 2 = s.windows.stagedDiffers ∧ (s.statusBytes.getD 2 0).getLsbD 3 = s.jc.windowLost ∧
      (s.statusBytes.getD 2 0).getLsbD 4 = s.lines.ckptLatch ∧ (s.statusBytes.getD 2 0).getLsbD 5 = s.lines.fallbackLatch ∧
      (s.statusBytes.getD 2 0).getLsbD 6 = s.ready ∧ (s.statusBytes.getD 2 0).getLsbD 7 = s.evtAsserted :=
  flags_bits ..

theorem statusBytes_pointers (s : State) : fieldAt 3 12 s.statusBytes =
    pointerBytes s.pointersAbsent s.jc.tail ++ pointerBytes (s.pointersAbsent || s.scanning) s.jc.head ++
      pointerBytes s.pointersAbsent s.jc.occupancy ++ pointerBytes (s.pointersAbsent || s.scanning) s.free := rfl

theorem statusBytes_anchor (s : State) : fieldAt 15 7 s.statusBytes =
    leBytes 2 (if s.anchor.newest.isNone then 0 else s.anchor.format.toNat) ++ [newestByte s.anchor.newest] ++
      leBytes 4 ((s.anchor.newest.map Newest.seq).getD 0).toNat := rfl

/-- R182, R191: with no newest slot the format number and the sequence read 0. -/
theorem statusBytes_no_newest {s : State} (h : s.anchor.newest = none) :
    fieldAt 15 7 s.statusBytes = [0, 0, 0xFF, 0, 0, 0, 0] := by
  rw [statusBytes_anchor, h]
  change leBytes 2 0 ++ [0xFF] ++ leBytes 4 0 = _
  decide

theorem statusBytes_newest {s : State} {n : Newest} (h : s.anchor.newest = some n) :
    fieldAt 15 2 s.statusBytes = leBytes 2 s.anchor.format.toNat ∧ s.statusBytes.getD 17 0 = BitVec.ofNat 8 n.slot.number ∧
      fieldAt 18 4 s.statusBytes = leBytes 4 n.seq.toNat := by
  rw [State.statusBytes, h]
  exact ⟨rfl, rfl, rfl⟩

/-! ### The pointers (R182) -/

/-- R182: where the ring is not in force, and in a format of a blank part until slot 0 has been written, no pointer is present. -/
def Ctl.HidesPointers : Ctl → Prop
  | .anchorRead | .unformatted => True
  | .formatting c => c.cameFrom = .unformatted ∧ c.step ≠ .apply ∧ c.step ≠ .clear
  | _ => False

/-- R182: while the scan runs, head and free are unknown. -/
def Ctl.Scans : Ctl → Prop
  | .recovering c => ∃ count slot, c.step = .scan count slot
  | _ => False

theorem pointersAbsent_iff (s : State) : s.pointersAbsent = true ↔ s.jc.state.HidesPointers := by
  unfold State.pointersAbsent Ctl.HidesPointers
  cases s.jc.state with
  | formatting c => cases hstep : c.step <;> simp [hstep]
  | _ => simp

theorem pointersAbsent_eq_false {s : State} (h : ¬s.jc.state.HidesPointers) : s.pointersAbsent = false :=
  Bool.eq_false_iff.2 (mt (pointersAbsent_iff s).1 h)

/-- R182: during the scan tail and occupancy are present. -/
theorem Ctl.Scans.not_hidesPointers {k : Ctl} (h : k.Scans) : ¬k.HidesPointers := by
  cases k with
  | recovering c => exact id
  | _ => exact h.elim

theorem scanning_iff (s : State) : s.scanning = true ↔ s.jc.state.Scans := by
  unfold State.scanning Ctl.Scans
  cases s.jc.state with
  | recovering c => cases hstep : c.step <;> simp [hstep]
  | _ => simp

theorem hidesPointers_of_name {s : State} (h : s.name = .anchorRead ∨ s.name = .unformatted) : s.jc.state.HidesPointers := by
  unfold State.name at h
  cases hk : s.jc.state with
  | anchorRead | unformatted => trivial
  | _ => simp [hk, Ctl.name] at h

/-- R182: the states in which the ring's pointers stand for themselves. -/
theorem pointers_shown {s : State} (h : s.name = .opened ∨ s.name = .unguarded ∨ s.name = .committing ∨ s.name = .rollingBack ∨
    s.name = .discarding ∨ s.name = .clearing ∨ s.name = .damaged ∨
    (∃ c, s.jc.state = .recovering c ∧ ∀ count slot, c.step ≠ .scan count slot) ∨
    (∃ c, s.jc.state = .formatting c ∧ (c.cameFrom ≠ .unformatted ∨ c.step = .apply ∨ c.step = .clear))) :
    ¬s.jc.state.HidesPointers ∧ ¬s.jc.state.Scans := by
  unfold State.name at h
  cases hk : s.jc.state with
  | anchorRead | unformatted => simp [hk, Ctl.name] at h
  | recovering c =>
    have hstep : ∀ count slot, c.step ≠ .scan count slot := by simpa [hk, Ctl.name] using h
    exact ⟨id, fun ⟨count, slot, hscan⟩ => hstep count slot hscan⟩
  | formatting c =>
    have hdone : c.cameFrom ≠ .unformatted ∨ c.step = .apply ∨ c.step = .clear := by simpa [hk, Ctl.name] using h
    refine ⟨fun ⟨hfrom, happly, hclear⟩ => ?_, id⟩
    exact hdone.elim (absurd hfrom) fun hstep => hstep.elim happly hclear
  | _ => exact ⟨id, id⟩

/-- R191: an absent pointer is all ones, whatever the ring holds. -/
theorem pointerBytes_absent (n : Nat) : pointerBytes true n = [0xFF, 0xFF, 0xFF] :=
  show leBytes 3 0xFFFFFF = [0xFF, 0xFF, 0xFF] by decide

theorem pointerBytes_present (n : Nat) : pointerBytes false n = leBytes 3 n := rfl

theorem pointers_hidden {s : State} (h : s.jc.state.HidesPointers) : fieldAt 3 12 s.statusBytes = List.replicate 12 0xFF := by
  rw [statusBytes_pointers, (pointersAbsent_iff s).2 h, Bool.true_or]
  simp only [pointerBytes_absent]
  rfl

theorem pointers_scanning {s : State} (h : s.jc.state.Scans) : fieldAt 3 12 s.statusBytes =
    leBytes 3 s.jc.tail ++ [0xFF, 0xFF, 0xFF] ++ leBytes 3 s.jc.occupancy ++ [0xFF, 0xFF, 0xFF] := by
  rw [statusBytes_pointers, pointersAbsent_eq_false h.not_hidesPointers, (scanning_iff s).2 h, Bool.or_true]
  simp only [pointerBytes_absent, pointerBytes_present]

theorem pointers_present {s : State} (hhides : ¬s.jc.state.HidesPointers) (hscans : ¬s.jc.state.Scans) :
    fieldAt 3 12 s.statusBytes = leBytes 3 s.jc.tail ++ leBytes 3 s.jc.head ++ leBytes 3 s.jc.occupancy ++
      leBytes 3 (s.capacity - s.jc.occupancy) := by
  rw [statusBytes_pointers, pointersAbsent_eq_false hhides, Bool.eq_false_iff.2 (mt (scanning_iff s).1 hscans)]
  rfl

theorem ringCapacity_lt (jsize : BitVec 3) : ringCapacity jsize < 2 ^ 24 := by
  revert jsize
  decide

/-- R43, R191: free fits its three bytes. -/
theorem free_lt (s : State) : s.capacity - s.jc.occupancy < 2 ^ 24 := (Nat.sub_le ..).trans_lt (ringCapacity_lt s.jsize)

theorem leNat_leBytes_pointer {n : Nat} (h : n < 2 ^ 24) : leNat (leBytes 3 n) = n := by
  rw [leNat_leBytes]
  exact Nat.mod_eq_of_lt h

/-- R191: four pointers of three bytes, one behind the other, are read back one by one. -/
theorem pointers_fields {b : List Byte} {t h o f : Nat}
    (hb : fieldAt 3 12 b = leBytes 3 t ++ leBytes 3 h ++ leBytes 3 o ++ leBytes 3 f) :
    fieldAt 3 3 b = leBytes 3 t ∧ fieldAt 6 3 b = leBytes 3 h ∧ fieldAt 9 3 b = leBytes 3 o ∧ fieldAt 12 3 b = leBytes 3 f := by
  have hfield (p : Nat) (hp : p + 3 ≤ 12) : fieldAt (3 + p) 3 b = fieldAt p 3 (fieldAt 3 12 b) := (fieldAt_fieldAt hp b).symm
  rw [hb] at hfield
  exact ⟨hfield 0 (by decide), hfield 3 (by decide), hfield 6 (by decide), hfield 9 (by decide)⟩

/-- Settles O47: the codes, the flags and the anchor's values by their places in the 24 bytes, the pointers by whether the
controller's state hides them, scans or shows them. -/
theorem getStatusReportsOneSnapshot : Obligations.GetStatusReportsOneSnapshot := by
  intro s hready
  obtain ⟨hname, hcause, hop, hresult⟩ := statusBytes_codes s
  obtain ⟨hmark, hhalt, hdiffers, hlost, hckpt, hfallback, hrdy, hevt⟩ := statusBytes_flags s
  refine ⟨s.statusBytes, statusBytes_length s, exec_getStatus hready, hname, hcause, hmark, hhalt, hdiffers, hlost, hckpt, hfallback,
    hrdy, hevt, fun h => ?blank, fun c hc hfrom happly hclear => ?formatting, fun c count slot hc hstep => ?scanning,
    fun h => ?present, statusBytes_no_newest, fun n hn => ?newest, hop, hresult⟩
  case blank => exact pointers_hidden (hidesPointers_of_name h)
  case formatting =>
    have hhides : s.jc.state.HidesPointers := by
      rw [hc]
      exact ⟨hfrom, happly, hclear⟩
    exact pointers_hidden hhides
  case scanning =>
    have hscans : s.jc.state.Scans := by
      rw [hc]
      exact ⟨count, slot, hstep⟩
    exact pointers_scanning hscans
  case present =>
    obtain ⟨hhides, hscans⟩ := pointers_shown h
    have hpointers := pointers_present hhides hscans
    obtain ⟨htail, hhead, hoccupancy, hfree⟩ := pointers_fields hpointers
    refine ⟨hpointers, fun hlt hlh hlo => ?_⟩
    rw [htail, hhead, hoccupancy, hfree]
    exact ⟨leNat_leBytes_pointer hlt, leNat_leBytes_pointer hlh, leNat_leBytes_pointer hlo, leNat_leBytes_pointer (free_lt s)⟩
  case newest =>
    obtain ⟨hformat, hslot, hseq⟩ := statusBytes_newest hn
    rw [hformat, hseq, leHalf_leBytes, leWord_leBytes]
    exact ⟨rfl, hslot, rfl⟩

end Sys2Proof.Machine
end

section
/-! SUPPORT. What the steps inside an event and memory's answers keep (R13, R158): the values that stay, the requests served in order, and
the laws of the windows, the queue, the directory, the open generation, the report, the timers and the request path. -/

namespace Sys2Proof.Machine

/-! ### The laws as propositions -/

/-- R3, R63, R155, R156: the port's discipline as it stands inside an event too, before the grants. -/
structure State.PathLaw (s : State) : Prop where
  single : s.port.single = true
  outstanding : s.port.reqOutstanding = s.inProgress
  headed : s.inProgress = true → s.front.queue ≠ []
  saving : s.save ≠ .idle → s.front.phase = .waiting ∧ s.front.queue ≠ []

theorem portDisciplined_iff (s : State) : s.portDisciplined = true ↔ s.PathLaw ∧ s.port.busyWhileClaimed = true := by
  simp only [State.portDisciplined, Bool.and_eq_true, beq_iff_eq]
  constructor
  · rintro ⟨⟨⟨⟨hsingle, hbusy⟩, hout⟩, hheaded⟩, hsaving⟩
    exact ⟨⟨hsingle, hout, by simpa [or_iff_not_imp_left] using hheaded, by simpa [or_iff_not_imp_left] using hsaving⟩, hbusy⟩
  · rintro ⟨⟨hsingle, hout, hheaded, hsaving⟩, hbusy⟩
    exact ⟨⟨⟨⟨hsingle, hbusy⟩, hout⟩, by simpa [or_iff_not_imp_left] using hheaded⟩, by
      simpa [or_iff_not_imp_left] using hsaving⟩

theorem holdPlaced_iff (s : State) : s.holdPlaced = true ↔
    (s.front.holdTimer ≠ none → s.front.queue ≠ [] ∧ s.inProgress = false) := by
  simp [State.holdPlaced, or_iff_not_imp_left]

/-- R79: the states in which the auto-commit timer can be other than IDLE. -/
def CtlName.timed : CtlName → Bool
  | .opened => true
  | .unguarded => true
  | .discarding => true
  | _ => false

theorem timerPlaced_iff (s : State) : s.timerPlaced = true ↔ s.jc.timer = .idle ∨ s.inReset = false ∧
    ((s.name = .opened ∨ s.name = .unguarded) ∧ (s.lines.halt = false ∧ (∃ ms, s.jc.timer = .running ms) ∨
        s.lines.halt = true ∧ ∃ ms, s.jc.timer = .paused ms) ∨
      s.name = .discarding ∧ ∃ ms, s.jc.timer = .paused ms) := by
  unfold State.timerPlaced
  cases s.jc.timer <;> simp <;> tauto

theorem generationExact_iff (s : State) : s.generationExact = true ↔
    ∀ p, (s.jc.epoch.map fun e => (e.number, e.generation)) = some p → p.2 = generationOf p.1.toNat := by
  unfold State.generationExact
  cases s.jc.epoch <;> simp

theorem reportWhole_iff (s : State) : s.reportWhole = true ↔
    ∀ r, s.events.report = some r → r.finish.isSome = r.outcome.isSome := by
  unfold State.reportWhole
  cases s.events.report <;> simp


/-! ### What is kept -/

/-- What no step inside an event touches. -/
structure Fixed where
  pending : List Instr
  straps : BitVec 4 × BitVec 3
  inReset : Bool
  halt : Bool
  qualifiers : Qualifier × Qualifier
  stamp : Word
  mask : BitVec 12
  policies : Policies
  decoder : FramePos × Bool × Option Answer
  store : TagStore

def State.fixed (s : State) : Fixed where
  pending := s.pending
  straps := (s.jbase, s.jsize)
  inReset := s.inReset
  halt := s.lines.halt
  qualifiers := (s.lines.ckpt, s.lines.fallback)
  stamp := s.stamp
  mask := s.events.mask
  policies := s.link.policies
  decoder := (s.link.pos, s.link.csLow, s.link.answer)
  store := s.tags.store

/-- R2: the requests not yet answered, in their order: those queued, then those presented. -/
def State.requests (s : State) : List Request := s.front.queue.map Entry.req ++ s.front.presented

/-- What the laws of this part look at. -/
structure View where
  fixed : Fixed
  queued : List Request
  presented : List Request
  phase : FrontPhase
  holdTimer : Option Half
  responses : List Response
  save : Save
  port : Port
  windows : WindowUnit
  directory : List DirEntry
  epoch : Option (Word × Gen)
  report : Option Report
  timer : AutoTimer
  name : CtlName

def State.view (s : State) : View where
  fixed := s.fixed
  queued := s.front.queue.map Entry.req
  presented := s.front.presented
  phase := s.front.phase
  holdTimer := s.front.holdTimer
  responses := s.front.responses
  save := s.save
  port := s.port
  windows := s.windows
  directory := s.jc.directory
  epoch := s.jc.epoch.map fun e => (e.number, e.generation)
  report := s.events.report
  timer := s.jc.timer
  name := s.name

/-- From s to t the fixed values stay, requests leave only from the front and with one response each, and the laws are kept. -/
structure Follows (s t : State) : Prop where
  fixed : t.fixed = s.fixed
  served : ∃ rs, t.front.responses = s.front.responses ++ rs ∧ t.requests = s.requests.drop rs.length
  flag : s.flagExact = true → t.flagExact = true
  queue : s.queueBounded = true → t.queueBounded = true
  directory : s.directoryBounded = true → t.directoryBounded = true
  generation : s.generationExact = true → t.generationExact = true
  report : s.reportWhole = true → t.reportWhole = true
  hold : s.holdPlaced = true → t.holdPlaced = true
  timer : s.inReset = false → s.timerPlaced = true → t.timerPlaced = true

/-- The port's discipline inside an event is kept too. -/
structure Keeps (s t : State) : Prop extends Follows s t where
  path : s.PathLaw → t.PathLaw

theorem Follows.inReset {s t : State} (h : Follows s t) : t.inReset = s.inReset := congrArg Fixed.inReset h.fixed

theorem Follows.halt {s t : State} (h : Follows s t) : t.lines.halt = s.lines.halt := congrArg Fixed.halt h.fixed

theorem Follows.trans {r s t : State} (h : Follows r s) (k : Follows s t) : Follows r t where
  fixed := k.fixed.trans h.fixed
  served := by
    obtain ⟨rs, hr, hq⟩ := h.served
    obtain ⟨rs', hr', hq'⟩ := k.served
    exact ⟨rs ++ rs', by rw [hr', hr, List.append_assoc], by rw [hq', hq, List.drop_drop, List.length_append]⟩
  flag := k.flag ∘ h.flag
  queue := k.queue ∘ h.queue
  directory := k.directory ∘ h.directory
  generation := k.generation ∘ h.generation
  report := k.report ∘ h.report
  hold := k.hold ∘ h.hold
  timer hr := k.timer (h.inReset.trans hr) ∘ h.timer hr

theorem Keeps.trans {r s t : State} (h : Keeps r s) (k : Keeps s t) : Keeps r t :=
  { h.toFollows.trans k.toFollows with path := k.path ∘ h.path }

theorem inProgress_congr {s t : State} (hphase : t.front.phase = s.front.phase) (hsave : t.save = s.save) :
    t.inProgress = s.inProgress := by
  rw [State.inProgress, State.inProgress, hphase, hsave]

theorem queue_eq_nil_congr {s t : State} (h : t.front.queue.map Entry.req = s.front.queue.map Entry.req) :
    t.front.queue = [] ↔ s.front.queue = [] := by
  rw [← List.map_eq_nil_iff, h, List.map_eq_nil_iff]

/-- What an operation may do to the laws of windows, directory, open epoch, report and timer. -/
structure LedgerKept (s t : State) : Prop where
  flag : s.flagExact = true → t.flagExact = true
  directory : s.directoryBounded = true → t.directoryBounded = true
  generation : s.generationExact = true → t.generationExact = true
  report : s.reportWhole = true → t.reportWhole = true
  timer : s.inReset = false → s.timerPlaced = true → t.timerPlaced = true

/-- An operation that leaves the front port, the save and the port alone keeps everything when it keeps the laws of the rest. -/
theorem keeps_of_ledger {s t : State} (hview : t.view = { s.view with
      windows := t.windows
      directory := t.jc.directory
      epoch := t.jc.epoch.map fun e => (e.number, e.generation)
      report := t.events.report
      timer := t.jc.timer
      name := t.name }) (h : LedgerKept s t) : Keeps s t := by
  have hfixed : t.fixed = s.fixed := congrArg View.fixed hview
  have hqueued : t.front.queue.map Entry.req = s.front.queue.map Entry.req := congrArg View.queued hview
  have hpresented : t.front.presented = s.front.presented := congrArg View.presented hview
  have hphase : t.front.phase = s.front.phase := congrArg View.phase hview
  have hhold : t.front.holdTimer = s.front.holdTimer := congrArg View.holdTimer hview
  have hresponses : t.front.responses = s.front.responses := congrArg View.responses hview
  have hsave : t.save = s.save := congrArg View.save hview
  have hport : t.port = s.port := congrArg View.port hview
  have hnil := queue_eq_nil_congr hqueued
  have hprogress := inProgress_congr hphase hsave
  exact {
    fixed := hfixed
    served := ⟨[], by simp [hresponses], by simp [State.requests, hqueued, hpresented]⟩
    flag := h.flag
    queue := by
      have hlength : t.front.queue.length = s.front.queue.length := by simpa using congrArg List.length hqueued
      simp [State.queueBounded, hlength]
    directory := h.directory
    generation := h.generation
    report := h.report
    hold := by simp only [holdPlaced_iff, hhold, ne_eq, hnil, hprogress, imp_self]
    timer := h.timer
    path := fun ⟨hsingle, hout, hheaded, hsaving⟩ =>
      ⟨by rw [hport]; exact hsingle, by rw [hport, hprogress]; exact hout, by rw [hprogress, ne_eq, hnil]; exact hheaded, by
        rw [hsave, hphase, ne_eq t.front.queue, hnil]; exact hsaving⟩ }

theorem LedgerKept.of_same {s t : State} (hwindows : t.windows = s.windows) (hdirectory : t.jc.directory = s.jc.directory)
    (hepoch : (t.jc.epoch.map fun e => (e.number, e.generation)) = s.jc.epoch.map fun e => (e.number, e.generation))
    (hreport : t.events.report = s.events.report)
    (htimer : s.inReset = false → s.timerPlaced = true → t.timerPlaced = true) : LedgerKept s t where
  flag := by simp [State.flagExact, hwindows]
  directory := by simp [State.directoryBounded, hdirectory]
  generation := by simp only [generationExact_iff, hepoch, imp_self]
  report := by simp only [reportWhole_iff, hreport, imp_self]
  timer := htimer

/-- An operation that changes nothing that the laws look at but the auto-commit timer and the controller's state. -/
theorem keeps_of_timer {s t : State} (hview : t.view = { s.view with timer := t.jc.timer, name := t.name })
    (htimer : s.inReset = false → s.timerPlaced = true → t.timerPlaced = true) : Keeps s t := by
  have hwindows : t.windows = s.windows := congrArg View.windows hview
  have hdirectory : t.jc.directory = s.jc.directory := congrArg View.directory hview
  have hepoch : (t.jc.epoch.map fun e => (e.number, e.generation)) = s.jc.epoch.map fun e => (e.number, e.generation) :=
    congrArg View.epoch hview
  have hreport : t.events.report = s.events.report := congrArg View.report hview
  refine keeps_of_ledger ?_ (.of_same hwindows hdirectory hepoch hreport htimer)
  rw [hwindows, hdirectory, hepoch, hreport]
  exact hview

theorem timerPlaced_congr {s t : State} (hreset : t.inReset = s.inReset) (hhalt : t.lines.halt = s.lines.halt)
    (htimer : t.jc.timer = s.jc.timer) (hname : t.name = s.name) : t.timerPlaced = s.timerPlaced := by
  rw [State.timerPlaced, State.timerPlaced, hreset, hhalt, htimer, hname]

/-- An operation that changes nothing that the laws look at. -/
theorem keeps_of_view {s t : State} (h : t.view = s.view) : Keeps s t := by
  have htimer : t.jc.timer = s.jc.timer := congrArg View.timer h
  have hname : t.name = s.name := congrArg View.name h
  have hfixed : t.fixed = s.fixed := congrArg View.fixed h
  refine keeps_of_timer (by rw [htimer, hname]; exact h) fun _ hs => ?_
  rw [timerPlaced_congr (congrArg Fixed.inReset hfixed) (congrArg Fixed.halt hfixed) htimer hname]
  exact hs

theorem Keeps.refl (s : State) : Keeps s s := keeps_of_view rfl

end Sys2Proof.Machine
end

section
/-! SUPPORT. Operations that several steps share keep the laws: the ring and directory moves, reports, the timer, DAMAGED, and the taking of
long operations. -/

namespace Sys2Proof.Machine

/-! ### Operations that several steps share -/

section Operations

variable (s : State) {t : State}

theorem dropOldest_keeps : Keeps s s.dropOldest := by
  unfold State.dropOldest
  split
  case h_1 => exact .refl s
  case h_2 d ds hds =>
    refine keeps_of_ledger rfl { flag := id, directory := fun h => ?_, generation := id, report := id, timer := fun _ => id }
    simp only [State.directoryBounded, hds, List.length_cons, decide_eq_true_eq] at h ⊢
    omega

/-- R88: a 16th entry is dropped again. -/
theorem overflowDrop_appendEntry_keeps (d : DirEntry) : Keeps s (s.appendEntry d).overflowDrop := by
  unfold State.overflowDrop
  split
  case isTrue =>
    obtain ⟨x, xs, hcons⟩ : ∃ x xs, s.jc.directory ++ [d] = x :: xs := List.exists_cons_of_ne_nil (by simp)
    have hlength : s.jc.directory.length + 1 = xs.length + 1 := by simpa using congrArg List.length hcons
    rw [dropOldest_of_cons (s := s.appendEntry d) hcons]
    refine keeps_of_ledger rfl { flag := id, directory := fun h => ?_, generation := id, report := id, timer := fun _ => id }
    rw [State.directoryBounded, decide_eq_true_eq] at h ⊢
    change xs.length ≤ 15
    omega
  case isFalse hle =>
    exact keeps_of_ledger rfl
      { flag := id, directory := fun _ => decide_eq_true (Nat.le_of_not_lt hle), generation := id, report := id, timer := fun _ => id }

theorem forcedDrop_keeps : Keeps s s.forcedDrop := by
  unfold State.forcedDrop
  split
  · exact dropOldest_keeps s
  · exact .refl s

theorem closeEpoch_keeps (d : DirEntry) : Keeps s (s.closeEpoch d) :=
  (overflowDrop_appendEntry_keeps s d).trans (forcedDrop_keeps _)

/-- R128: the truncation lists no entry that was not listed. -/
theorem truncate_keeps (c : Word) (commits : Nat) : Keeps s (s.truncate c commits) := by
  refine keeps_of_ledger rfl { flag := id, directory := fun h => ?_, generation := id, report := id, timer := fun _ => id }
  rw [State.directoryBounded, decide_eq_true_eq] at h ⊢
  exact (List.length_filter_le _ _).trans h

theorem emptyRing_keeps : Keeps s s.emptyRing :=
  keeps_of_ledger rfl { flag := id, directory := fun _ => rfl, generation := id, report := id, timer := fun _ => id }

theorem openEpoch_keeps (m : Word) (broken : Bool) : Keeps s (s.openEpoch m broken) :=
  keeps_of_ledger rfl
    { flag := id, directory := id, generation := fun _ => beq_self_eq_true (generationOf m.toNat), report := id, timer := fun _ => id }

theorem workOut_exact (w : WindowUnit) : (w.workOut.stagedDiffers == differ w.workOut.staged w.workOut.committed) = true :=
  beq_self_eq_true (differ w.staged w.committed)

/-- R25, R21: the staged-differs flag is worked out again with the new committed table. -/
theorem applyCopy_keeps (c : TableCopy) : Keeps s (s.applyCopy c) :=
  keeps_of_ledger rfl
    { flag := fun _ => workOut_exact _, directory := id, generation := id, report := id, timer := fun _ => id }

theorem beginReport_keeps (cause : ReportCause) (target : Option Word) (n start : Word) :
    Keeps s (s.beginReport cause target n start) :=
  keeps_of_ledger rfl { flag := id, directory := id, generation := id, report := fun _ => rfl, timer := fun _ => id }

theorem endReport_keeps (o : ReportOutcome) : Keeps s (s.endReport o) := by
  refine keeps_of_ledger rfl { flag := id, directory := id, generation := id, report := fun _ => ?_, timer := fun _ => id }
  rw [reportWhole_iff]
  intro r hr
  obtain ⟨q, -, rfl⟩ := Option.map_eq_some_iff.1 hr
  rfl

theorem raise_keeps (e : Event) : Keeps s (s.raise e) := keeps_of_view rfl

theorem raiseIf_keeps (b : Bool) (e : Event) : Keeps s (s.raiseIf b e) := by
  unfold State.raiseIf
  split
  · exact raise_keeps s e
  · exact .refl s

theorem endLong_keeps (r : LongResult) : Keeps s (s.endLong r) := by
  unfold State.endLong
  split
  · exact .refl s
  · exact keeps_of_view rfl

/-- R14, R15: the marks are nothing the laws look at. -/
theorem withQueue_keeps {q : List Entry} (h : q.map Entry.req = s.front.queue.map Entry.req) :
    Keeps s { s with front.queue := q } :=
  keeps_of_view (congrArg (fun reqs => { s.view with queued := reqs }) h)

theorem unmark_keeps : Keeps s s.unmark := withQueue_keeps s (map_req_unmarkAll _)

variable {s}

theorem timerPlaced_of_idle (h : s.jc.timer = .idle) : s.timerPlaced = true := (timerPlaced_iff s).2 (.inl h)

/-- R79: a timer that stands outside OPEN, UNGUARDED and DISCARDING is IDLE, so that the controller may go from there to any
state. -/
theorem timer_idle_of_untimed (h : s.name.timed = false) (hs : s.timerPlaced = true) : s.jc.timer = .idle := by
  obtain hidle | ⟨-, ⟨hname | hname, -⟩ | ⟨hname, -⟩⟩ := (timerPlaced_iff s).1 hs
  · exact hidle
  all_goals
    rw [hname] at h
    contradiction

theorem keeps_of_name (hview : t.view = { s.view with name := t.name }) (h : s.name = t.name ∨ s.name.timed = false) :
    Keeps s t := by
  have htimer : t.jc.timer = s.jc.timer := congrArg View.timer hview
  have hfixed : t.fixed = s.fixed := congrArg View.fixed hview
  refine keeps_of_timer (by rw [htimer]; exact hview) fun _ hs => ?_
  obtain hname | huntimed := h
  · rw [timerPlaced_congr (congrArg Fixed.inReset hfixed) (congrArg Fixed.halt hfixed) htimer hname.symm]
    exact hs
  · exact timerPlaced_of_idle (htimer.trans (timer_idle_of_untimed huntimed hs))

/-- R79: the timer just started, in OPEN or UNGUARDED, runs, or is paused under halt. -/
theorem timerPlaced_of_started (hreset : s.inReset = false) (hname : s.name = .opened ∨ s.name = .unguarded)
    (htimer : s.jc.timer = s.startedTimer) : s.timerPlaced = true := by
  rw [timerPlaced_iff, htimer, State.startedTimer]
  split
  · exact .inl rfl
  · refine .inr ⟨hreset, .inl ⟨hname, ?_⟩⟩
    split
    case isTrue hhalt => exact .inr ⟨hhalt, _, rfl⟩
    case isFalse hhalt => exact .inl ⟨Bool.eq_false_iff.2 hhalt, _, rfl⟩

/-- The controller comes to OPEN or UNGUARDED, and the timer is started there. -/
theorem keeps_of_started (hview : t.view = { s.view with timer := t.jc.timer, name := t.name })
    (hname : t.name = .opened ∨ t.name = .unguarded) (htimer : t.jc.timer = t.startedTimer) : Keeps s t := by
  have hfixed : t.fixed = s.fixed := congrArg View.fixed hview
  exact keeps_of_timer hview fun hreset _ =>
    timerPlaced_of_started ((congrArg Fixed.inReset hfixed).trans hreset) hname htimer

/-- R28, R65: what is left of a save when one in ROOM, for which nothing is claimed yet, ends. -/
def Save.leaveRoom : Save → Save
  | .room _ _ => .idle
  | v => v

theorem leaveRoom_keeps (s : State) : Keeps s { s with save := s.save.leaveRoom } := by
  have hprogress : State.inProgress { s with save := s.save.leaveRoom } = s.inProgress := by
    cases h : s.save <;> simp [State.inProgress, Save.leaveRoom, h]
  have hidle : s.save.leaveRoom ≠ .idle → s.save ≠ .idle := fun hne h => hne (by rw [h]; rfl)
  exact {
    fixed := rfl
    served := ⟨[], by simp, rfl⟩
    flag := id
    queue := id
    directory := id
    generation := id
    report := id
    hold := by simp only [holdPlaced_iff, hprogress, imp_self]
    timer := fun _ => id
    path := fun ⟨hsingle, hout, hheaded, hsaving⟩ =>
      ⟨hsingle, hout.trans hprogress.symm, by rw [hprogress]; exact hheaded, fun hne => hsaving (hidle hne)⟩ }

theorem enterDamaged_keeps (s : State) (k : Cause) : Keeps s (s.enterDamaged k) := by
  have hmarks := withQueue_keeps { s with save := s.save.leaveRoom } (map_req_unmarkAll s.front.queue)
  exact ((leaveRoom_keeps s).trans hmarks).trans (keeps_of_timer rfl fun _ _ => timerPlaced_of_idle rfl)

/-- R82, R119: the commit or the rollback taken stops the timer and marks the requests. -/
theorem takeCommit_keeps (s : State) (byCommand : Bool) : Keeps s (s.takeCommit byCommand) :=
  (withQueue_keeps s (map_req_markAll _)).trans (keeps_of_timer rfl fun _ _ => timerPlaced_of_idle rfl)

theorem takeRollback_keeps (s : State) (c : Word) (cause : ReportCause) : Keeps s (s.takeRollback c cause) :=
  (withQueue_keeps s (map_req_markAll _)).trans (keeps_of_timer rfl fun _ _ => timerPlaced_of_idle rfl)

theorem takeFormat_keeps (s : State) : Keeps s s.takeFormat :=
  (leaveRoom_keeps s).trans (keeps_of_timer rfl fun _ _ => timerPlaced_of_idle rfl)

end Operations

end Sys2Proof.Machine
end

section
/-! SUPPORT. The head answered, claimed or waiting, and requests accepted, keep the laws (R2, R3, R13, R17, R65). -/

namespace Sys2Proof.Machine

/-! ### The head answered, claimed or waiting, and requests accepted -/

section Front

variable {s t : State} {e : Entry} {rest : List Entry}

/-- R2: the requests queued are bounded when they do not grow. -/
theorem queueBounded_of_le (h : t.front.queue.length ≤ s.front.queue.length) (hs : s.queueBounded = true) :
    t.queueBounded = true := by
  rw [State.queueBounded, decide_eq_true_eq] at hs ⊢
  exact h.trans hs

theorem holdPlaced_of_none (h : s.front.holdTimer = none) : s.holdPlaced = true :=
  (holdPlaced_iff s).2 fun hne => absurd h hne

theorem respond_follows (s : State) (st : Status) (data : List Byte) : Follows s (s.respond st data) := by
  cases hqueue : s.front.queue
  case nil =>
    have hsame : s.respond st data = s := by rw [State.respond, hqueue]
    rw [hsame]
    exact (Keeps.refl s).toFollows
  case cons e rest =>
    rw [respond_of_queue hqueue]
    exact {
      fixed := rfl
      served := ⟨_, rfl, by simp [State.requests, hqueue]⟩
      flag := id
      queue := queueBounded_of_le (by rw [hqueue]; exact Nat.le_succ _)
      directory := id
      generation := id
      report := id
      hold := fun _ => holdPlaced_of_none rfl
      timer := fun _ => id }

theorem claimFirst_follows (s : State) (r : Request) (phase : FrontPhase) (save : Save) : Follows s (s.claimFirst r phase save) where
  fixed := rfl
  served := ⟨[], by simp [State.claimFirst], rfl⟩
  flag := id
  queue := id
  directory := id
  generation := id
  report := id
  hold _ := holdPlaced_of_none rfl
  timer _ := id

theorem perform_follows (s : State) (counts : Bool) : Follows s (s.perform counts) := by
  unfold State.perform
  split
  · exact (Keeps.refl s).toFollows
  · exact claimFirst_follows _ _ _ _

/-- R3: once the head is answered nothing of it is outstanding. -/
theorem respond_path (hqueue : s.front.queue = e :: rest) (hsingle : s.port.single = true)
    (hout : s.port.reqOutstanding = false) (st : Status) (data : List Byte) : (s.respond st data).PathLaw := by
  rw [respond_of_queue hqueue]
  exact ⟨hsingle, hout, fun h => by contradiction, fun h => absurd rfl h⟩

/-- R3: the first claim of the head makes it the one in progress. -/
theorem claimFirst_path (hqueue : s.front.queue ≠ []) (hsingle : s.port.single = true) (hout : s.port.reqOutstanding = false)
    (r : Request) {phase : FrontPhase} {save : Save}
    (h : (∃ counts, phase = .performing counts) ∧ save = .idle ∨ phase = .waiting ∧ ∃ g n, save = .read g n) :
    (s.claimFirst r phase save).PathLaw := by
  have hprogress : (s.claimFirst r phase save).inProgress = true := by
    obtain ⟨⟨counts, rfl⟩, rfl⟩ | ⟨rfl, g, n, rfl⟩ := h <;> rfl
  refine ⟨?_, hprogress.symm, fun _ => hqueue, fun hne => ?_⟩
  · cases hflight : s.port.inFlight with
    | none => simp [State.claimFirst, Port.single, hflight]
    | some f =>
      obtain ⟨c | c, q⟩ := f
      · simp [Port.reqOutstanding, hflight] at hout
      · simpa [State.claimFirst, Port.single, hflight] using hsingle
  · obtain ⟨-, rfl⟩ | ⟨rfl, -⟩ := h
    · exact absurd rfl hne
    · exact ⟨rfl, hqueue⟩

theorem perform_path (hqueue : s.front.queue = e :: rest) (hsingle : s.port.single = true)
    (hout : s.port.reqOutstanding = false) (counts : Bool) : (s.perform counts).PathLaw := by
  rw [State.perform, hqueue]
  exact claimFirst_path (by simp [hqueue]) hsingle hout _ (.inl ⟨⟨counts, rfl⟩, rfl⟩)

variable (hqueue : s.front.queue = e :: rest) (hwaits : s.inProgress = false)
include hqueue hwaits

theorem respond_keeps (st : Status) (data : List Byte) : Keeps s (s.respond st data) :=
  { respond_follows s st data with path := fun h => respond_path hqueue h.single (h.outstanding.trans hwaits) st data }

theorem perform_keeps (counts : Bool) : Keeps s (s.perform counts) :=
  { perform_follows s counts with path := fun h => perform_path hqueue h.single (h.outstanding.trans hwaits) counts }

theorem claimSaveRead_keeps (g n : Nat) : Keeps s (s.claimSaveRead g n) :=
  { claimFirst_follows s _ _ _ with
    path := fun h => claimFirst_path (by simp [hqueue]) h.single (h.outstanding.trans hwaits) _ (.inr ⟨rfl, g, n, rfl⟩) }

/-- R17: only a head that waits starts the hold timer. -/
theorem beginWait_keeps (r : HoldReason) : Keeps s (s.beginWait r) where
  fixed := rfl
  served := ⟨[], by simp [State.beginWait], rfl⟩
  flag := id
  queue := id
  directory := id
  generation := id
  report := id
  hold _ := (holdPlaced_iff _).2 fun _ => ⟨by simp [State.beginWait, hqueue], hwaits⟩
  timer _ := id
  path h := ⟨h.single, h.outstanding, h.headed, h.saving⟩

theorem enterRoom_keeps (g n : Nat) : Keeps s (s.enterRoom g n) := by
  have hphase : s.front.phase = .waiting := by
    cases h : s.front.phase <;> simp [State.inProgress, h] at hwaits ⊢
  have hprogress : (s.enterRoom g n).inProgress = false := by
    simp [State.inProgress, State.enterRoom, State.beginWait, hphase]
  have hnonempty : (s.enterRoom g n).front.queue ≠ [] := by simp [State.enterRoom, State.beginWait, hqueue]
  exact {
    beginWait_keeps hqueue hwaits .room with
    hold := fun _ => (holdPlaced_iff _).2 fun _ => ⟨hnonempty, hprogress⟩
    path := fun h =>
      ⟨h.single, (h.outstanding.trans hwaits).trans hprogress.symm, fun _ => hnonempty, fun _ => ⟨hphase, hnonempty⟩⟩ }

omit hqueue hwaits

theorem startUpdate_keeps (s : State) (r : Requester) (a : Anchor) : Keeps s (s.startUpdate r a) := keeps_of_view rfl

theorem reclaimStep_keeps (s : State) : Keeps s s.reclaimStep := (dropOldest_keeps s).trans (keeps_of_view rfl)

theorem unguardStep_keeps (s : State) : Keeps s s.unguardStep := by
  refine keeps_of_view ?_
  cases he : s.jc.epoch <;> simp [State.unguardStep, State.startUpdate, State.view, State.fixed, State.name, he]

theorem askRoom_keeps (s : State) : Keeps s s.askRoom := by
  unfold State.askRoom
  split
  · exact reclaimStep_keeps s
  · exact unguardStep_keeps s

theorem roomStep_keeps {g n : Nat} (hqueue : s.front.queue = e :: rest) (hwaits : s.inProgress = false) (hsave : s.save = .room g n)
    (h : s.roomStep g n = some t) : Keeps s t := by
  obtain rfl | rfl | rfl := roomStep_some h
  · exact claimSaveRead_keeps hqueue hwaits g n
  · exact askRoom_keeps s
  · have hended := leaveRoom_keeps s
    rw [hsave] at hended
    exact hended

/-- R13: what an examination that changes anything finds, and what it does. -/
theorem headStep_cases (h : s.headStep = some t) : s.inProgress = false ∧ ∃ e rest, s.front.queue = e :: rest ∧
    (s.lines.halt = true ∧ s.act (.answer .halted false) e = some t ∨ s.lines.halt = false ∧
      ((∃ g n, s.save = .room g n ∧ s.roomStep g n = some t) ∨ s.save = .idle ∧ s.act (s.headAction e) e = some t)) := by
  unfold State.headStep at h
  split at h
  case isTrue => contradiction
  case isFalse hwaits =>
    refine ⟨Bool.eq_false_iff.2 hwaits, ?_⟩
    split at h
    case h_1 => contradiction
    case h_2 e rest hqueue =>
      refine ⟨e, rest, hqueue, ?_⟩
      split at h
      case isTrue hhalt => exact .inl ⟨hhalt, h⟩
      case isFalse hhalt =>
        refine .inr ⟨Bool.eq_false_iff.2 hhalt, ?_⟩
        split at h
        case h_1 g n hsave => exact .inl ⟨g, n, hsave, h⟩
        case h_2 hsave => exact .inr ⟨hsave, h⟩
        all_goals contradiction

theorem beginSave_keeps (hqueue : s.front.queue = e :: rest) (hwaits : s.inProgress = false) : Keeps s (s.beginSave e) := by
  obtain h | h | ⟨r, rfl, h⟩ := beginSave_cases e s
  · rw [h]
    exact perform_keeps hqueue hwaits true
  · rw [h]
    exact claimSaveRead_keeps hqueue hwaits _ _
  · have hentered := enterRoom_keeps hqueue hwaits e.req.granule (tagEntry s.windows.committed e.req.granule)
    obtain h | h := h
    · rw [h]
      exact hentered
    · refine hentered.trans (roomStep_keeps (e := e) (rest := rest) ?_ ?_ rfl h)
      · simpa [State.beginWait] using hqueue
      · cases hphase : s.front.phase <;> simp [State.inProgress, State.beginWait, hphase] at hwaits ⊢

theorem act_keeps {a : HeadAction} (hqueue : s.front.queue = e :: rest) (hwaits : s.inProgress = false)
    (h : s.act a e = some t) : Keeps s t := by
  cases a
  case answer st refusal =>
    cases h
    exact (respond_keeps hqueue hwaits st []).trans (raiseIf_keeps _ _ _)
  case perform counts =>
    cases h
    exact perform_keeps hqueue hwaits counts
  case wait r =>
    obtain ⟨-, rfl⟩ : s.front.holdReason ≠ some r ∧ s.beginWait r = t := by simpa [State.act] using h
    exact beginWait_keeps hqueue hwaits r
  case save =>
    cases h
    exact beginSave_keeps hqueue hwaits

theorem headStep_keeps (h : s.headStep = some t) : Keeps s t := by
  obtain ⟨hwaits, e, rest, hqueue, ⟨-, hact⟩ | ⟨-, ⟨g, n, hsave, hroom⟩ | ⟨-, hact⟩⟩⟩ := headStep_cases h
  · exact act_keeps hqueue hwaits hact
  · exact roomStep_keeps hqueue hwaits hsave hroom
  · exact act_keeps hqueue hwaits hact

theorem examineHead_keeps (s : State) : Keeps s s.examineHead := by
  unfold State.examineHead
  split
  · exact .refl s
  · exact headStep_keeps ‹_›

theorem acceptStep_some (h : s.acceptStep = some t) : ∃ r rest, s.front.presented = r :: rest ∧ s.front.queue.length < 4 ∧
    t = { s with front.presented := rest, front.queue := s.front.queue ++ [{ req := r, marked := false }] } := by
  unfold State.acceptStep at h
  split at h
  · contradiction
  · split at h
    case isTrue hroom => exact ⟨_, _, ‹_›, hroom, (Option.some.inj h).symm⟩
    case isFalse => contradiction

/-- R2: a request accepted goes behind those queued, before those still presented. -/
theorem acceptStep_keeps (h : s.acceptStep = some t) : Keeps s t := by
  obtain ⟨r, rest, hpresented, hroom, rfl⟩ := acceptStep_some h
  exact {
    fixed := rfl
    served := ⟨[], by simp, by simp [State.requests, hpresented]⟩
    flag := id
    queue := fun _ => by simp only [State.queueBounded, List.length_append, List.length_singleton, decide_eq_true_eq]; omega
    directory := id
    generation := id
    report := id
    hold := fun hs => (holdPlaced_iff _).2 fun hne => ⟨by simp, ((holdPlaced_iff s).1 hs hne).2⟩
    timer := fun _ => id
    path := fun hp => ⟨hp.single, hp.outstanding, fun _ => by simp, fun hne => ⟨(hp.saving hne).1, by simp⟩⟩ }

end Front

end Sys2Proof.Machine
end

section
/-! SUPPORT. The offers of the latches and the controller's own steps keep the laws; what stays through all the steps inside an event. -/

namespace Sys2Proof.Machine

/-! ### The offers of the latches -/

section Offers

variable {s t : State}

theorem offerCkpt_keeps (h : s.offerCkpt = some t) : Keeps s t := by
  unfold State.offerCkpt at h
  split at h
  · cases h
    have hemptied : Keeps s { s with lines.ckptLatch := false } := keeps_of_view rfl
    exact hemptied.trans (takeCommit_keeps _ _)
  · contradiction

theorem offerFallback_keeps (h : s.offerFallback = some t) : Keeps s t := by
  have hemptied : Keeps s { s with lines.fallbackLatch := false } := keeps_of_view rfl
  unfold State.offerFallback at h
  simp only at h
  split at h
  · split at h
    · cases h
      exact hemptied.trans (takeRollback_keeps _ _ _)
    · split at h
      · cases h
        exact hemptied.trans (raise_keeps _ _)
      · contradiction
  · contradiction

theorem drawn_keeps (s : State) : Keeps s s.drawn := keeps_of_view rfl

theorem offerLatches_keepsLaws (s : State) : Keeps s s.offerLatches :=
  offerLatches_keeps (P := Keeps s) (fun u h => h.trans (drawn_keeps u)) (fun _ _ ht h => h.trans (offerCkpt_keeps ht))
    (fun _ _ ht h => h.trans (offerFallback_keeps ht)) s (.refl s)

end Offers

/-! ### The controller's own steps -/

section Controller

variable {s t : State}

theorem writeCommitRecord_keeps (s : State) (i : CommitInfo) : Keeps s (s.writeCommitRecord i) := keeps_of_view rfl

theorem beginCommitRecord_keeps {c : CommitCtx} (hname : s.name = .committing) : Keeps s (s.beginCommitRecord c) := by
  unfold State.beginCommitRecord
  split
  · exact .refl s
  · simp only
    split <;> exact keeps_of_name rfl (.inl hname)

theorem closedEpoch_keeps (s : State) : Keeps s { s with jc.epoch := none } :=
  keeps_of_ledger rfl { flag := id, directory := id, generation := fun _ => rfl, report := id, timer := fun _ => id }

theorem commitOpen_keeps {c : CommitCtx} (hname : s.name = .committing) : Keeps s (s.commitOpen c) := by
  unfold State.commitOpen
  split
  · exact ((endLong_keeps s _).trans (closedEpoch_keeps _)).trans (enterDamaged_keeps _ _)
  · rename_i m _
    have hopened := openEpoch_keeps s m false
    simp only
    split
    · exact (hopened.trans (applyCopy_keeps _ _)).trans (keeps_of_name rfl (.inl hname))
    · exact hopened.trans (keeps_of_name rfl (.inl hname))

theorem commitStep_keeps {c : CommitCtx} (hname : s.name = .committing) (h : s.commitStep c = some t) : Keeps s t := by
  unfold State.commitStep at h
  split at h
  case h_1 =>
    split at h
    · cases h
      exact beginCommitRecord_keeps hname
    · contradiction
  case h_2 =>
    split at h
    · cases h
      exact writeCommitRecord_keeps s _
    · contradiction
  case h_3 =>
    split at h
    · cases h
      exact commitOpen_keeps hname
    · contradiction
  case h_4 => contradiction

theorem recoveryOpen_keeps {c : RecoveryCtx} (hname : s.name = .recovering) (k : Course) : Keeps s (s.recoveryOpen c k) := by
  unfold State.recoveryOpen
  split
  · refine ((endReport_keeps s .damaged).trans ?_).trans (enterDamaged_keeps _ _)
    split
    · exact closedEpoch_keeps _
    · exact .refl _
  · exact (openEpoch_keeps s _ _).trans (keeps_of_name rfl (.inl hname))

theorem recoveryStep_keeps {c : RecoveryCtx} (hname : s.name = .recovering) (h : s.recoveryStep c = some t) : Keeps s t := by
  unfold State.recoveryStep at h
  split at h
  case h_2 =>
    split at h
    · cases h
      exact (truncate_keeps s _ _).trans (keeps_of_name rfl (.inl hname))
    · contradiction
  case h_3 =>
    split at h
    · cases h
      exact recoveryOpen_keeps hname _
    · contradiction
  all_goals contradiction

theorem rollbackAbandoned_keeps (s : State) : Keeps s s.rollbackAbandoned :=
  ((endLong_keeps s _).trans (unmark_keeps _)).trans (keeps_of_started rfl (.inr rfl) rfl)

theorem askIntent_keeps {c : RollbackCtx} (hname : s.name = .rollingBack) : Keeps s (s.askIntent c) :=
  keeps_of_name rfl (.inl hname)

theorem rollbackOpen_keeps {c : RollbackCtx} (hname : s.name = .rollingBack) : Keeps s (s.rollbackOpen c) := by
  unfold State.rollbackOpen
  split
  · exact ((endLong_keeps s _).trans (endReport_keeps _ _)).trans (enterDamaged_keeps _ _)
  · exact (openEpoch_keeps s _ _).trans (keeps_of_name rfl (.inl hname))

theorem rollbackDrained_keeps {c : RollbackCtx} (hname : s.name = .rollingBack) (h : s.rollbackDrained c = some t) :
    Keeps s t := by
  unfold State.rollbackDrained at h
  split at h
  case h_1 =>
    cases h
    split
    · exact rollbackAbandoned_keeps s
    · exact askIntent_keeps hname
  case h_2 =>
    cases h
    exact rollbackAbandoned_keeps s
  case h_3 => contradiction

theorem rollbackStep_keeps {c : RollbackCtx} (hname : s.name = .rollingBack) (h : s.rollbackStep c = some t) : Keeps s t := by
  unfold State.rollbackStep at h
  split at h
  case h_1 =>
    split at h
    · exact rollbackDrained_keeps hname h
    · contradiction
  case h_3 =>
    split at h
    · cases h
      exact (truncate_keeps s _ _).trans (keeps_of_name rfl (.inl hname))
    · contradiction
  case h_4 =>
    split at h
    · cases h
      exact rollbackOpen_keeps hname
    · contradiction
  all_goals contradiction

theorem discardStep_keeps {c : DiscardCtx} (h : s.discardStep c = some t) : Keeps s t := by
  unfold State.discardStep at h
  split at h
  · cases h
    exact startUpdate_keeps s _ _
  · contradiction

/-! ### The steps of FORMAT and CLEAR DAMAGE -/

/-- R110: what a format writes next leaves it FORMATTING. -/
theorem formatTo_keeps (hname : s.name = .formatting) (c : FormatCtx) (step : FormatStep) (o : Owner) (todo : List Request) :
    Keeps s (s.formatTo c step o todo) :=
  keeps_of_name rfl (.inl hname)

theorem invalidate_keeps (hname : s.name = .formatting) (c : FormatCtx) : Keeps s (s.invalidate c) := by
  unfold State.invalidate
  split <;> exact formatTo_keeps hname _ _ _ _

theorem formatBegin_keeps (hname : s.name = .formatting) (c : FormatCtx) : Keeps s (s.formatBegin c) := by
  unfold State.formatBegin
  split
  · exact formatTo_keeps hname _ _ _ _
  · exact invalidate_keeps hname c

theorem formatApply_keeps (hname : s.name = .formatting) (c : FormatCtx) : Keeps s (s.formatApply c) :=
  (applyCopy_keeps s _).trans (keeps_of_name rfl (.inl hname))

theorem formatComplete_keeps (s : State) : Keeps s s.formatComplete :=
  (endLong_keeps s _).trans (keeps_of_started rfl (.inl rfl) rfl)

theorem formatStep_keeps {c : FormatCtx} (hname : s.name = .formatting) (h : s.formatStep c = some t) : Keeps s t := by
  unfold State.formatStep at h
  split at h
  case h_1 =>
    split at h
    · contradiction
    · cases h
      exact formatBegin_keeps hname c
  case h_6 =>
    split at h
    · contradiction
    · cases h
      exact formatApply_keeps hname c
  case h_7 =>
    split at h
    · cases h
      exact formatComplete_keeps s
    · contradiction
  all_goals contradiction

theorem clearingOpen_keeps {c : ClearCtx} (hname : s.name = .clearing) : Keeps s (s.clearingOpen c) := by
  unfold State.clearingOpen
  split
  · exact (endLong_keeps s _).trans (enterDamaged_keeps _ _)
  · exact (openEpoch_keeps s _ _).trans (keeps_of_name rfl (.inl hname))

theorem clearingStep_keeps {c : ClearCtx} (hname : s.name = .clearing) (h : s.clearingStep c = some t) : Keeps s t := by
  unfold State.clearingStep at h
  split at h
  case h_1 =>
    split at h
    · contradiction
    · cases h
      exact (emptyRing_keeps s).trans (keeps_of_name rfl (.inl hname))
  case h_2 =>
    split at h
    · cases h
      exact clearingOpen_keeps hname
    · contradiction
  case h_3 =>
    split at h
    · contradiction
    · cases h
      exact (applyCopy_keeps s _).trans (keeps_of_name rfl (.inl hname))
  case h_4 => contradiction

/-! ### All the steps inside an event, and its end -/

theorem ctlStep_keeps (h : s.ctlStep = some t) : Keeps s t := by
  unfold State.ctlStep at h
  split at h
  case h_1 =>
    split at h
    · cases h
      exact keeps_of_view rfl
    · contradiction
  case h_3 c hk => exact recoveryStep_keeps (congrArg Ctl.name hk) h
  case h_6 c hk => exact commitStep_keeps (congrArg Ctl.name hk) h
  case h_7 c hk => exact rollbackStep_keeps (congrArg Ctl.name hk) h
  case h_8 c hk => exact discardStep_keeps h
  case h_9 c hk => exact formatStep_keeps (congrArg Ctl.name hk) h
  case h_10 c hk => exact clearingStep_keeps (congrArg Ctl.name hk) h
  all_goals contradiction

theorem internalStep_keepsLaws {r : State} (s t : State) (h : s.internalStep = some t) (hs : Keeps r s) : Keeps r t :=
  internalStep_keeps (P := Keeps r) (fun u hu => hu.trans (drawn_keeps u)) (fun _ _ ht hu => hu.trans (ctlStep_keeps ht))
    (fun _ _ ht hu => hu.trans (offerCkpt_keeps ht)) (fun _ _ ht hu => hu.trans (offerFallback_keeps ht))
    (fun _ _ ht hu => hu.trans (headStep_keeps ht)) (fun _ _ ht hu => hu.trans (acceptStep_keeps ht)) h hs

theorem settle_keepsLaws (s : State) : Keeps s s.settle := settle_keeps internalStep_keepsLaws s (.refl s)

/-- The grants change nothing that the laws other than the port's look at. -/
theorem withPort_follows (s : State) (p : Port) (n : Nat) : Follows s { s with port := p, freeIndex := n } where
  fixed := rfl
  served := ⟨[], by simp, rfl⟩
  flag := id
  queue := id
  directory := id
  generation := id
  report := id
  hold := id
  timer _ := id

theorem finish_follows (s : State) (w : Bool) : Follows s (s.finish w) :=
  finish_keeps (P := Follows s) (fun u v h hu => hu.trans (internalStep_keepsLaws u v h (.refl u)).toFollows)
    (fun u p n hu => hu.trans (withPort_follows u p n)) w s (Keeps.refl s).toFollows

/-- Settles O4: what an event's end touches is none of the fixed values, and each request that leaves adds its response. -/
theorem insideAnEventTheseStay : Obligations.InsideAnEventTheseStay := by
  unfold Obligations.InsideAnEventTheseStay
  intro s w
  have hfollows := finish_follows s w
  have hfixed := hfollows.fixed
  obtain ⟨rs, hresponses, -⟩ := hfollows.served
  exact ⟨congrArg Fixed.pending hfixed, congrArg (·.straps.1) hfixed, congrArg (·.straps.2) hfixed, congrArg Fixed.inReset hfixed,
    congrArg Fixed.halt hfixed, congrArg (·.qualifiers.1) hfixed, congrArg (·.qualifiers.2) hfixed, congrArg Fixed.stamp hfixed,
    congrArg Fixed.mask hfixed, congrArg Fixed.policies hfixed, congrArg (·.decoder.1) hfixed, congrArg (·.decoder.2.1) hfixed,
    congrArg (·.decoder.2.2) hfixed, congrArg Fixed.store hfixed, rs, hresponses.symm⟩

end Controller

end Sys2Proof.Machine
end

section
/-! SUPPORT. The ends of the controller's transfers keep the laws (R86, R93, R101, R103, R108, R110, R125, R131, R138 to R150, R160). -/

namespace Sys2Proof.Machine

/-! ### The ends of the controller's transfers -/

section Transfers

variable (s : State) {t : State}

theorem readWalk_keeps (w : Walk) : Keeps s (s.readWalk w) := by
  unfold State.readWalk
  split
  · exact .refl s
  · exact keeps_of_view rfl

theorem setWalk_name (k : Ctl) (w : Walk) : (k.setWalk w).name = k.name := by
  unfold Ctl.setWalk
  split
  case h_1 | h_2 => split <;> rfl
  all_goals rfl

theorem advanceWalk_keeps (w : Walk) : Keeps s (s.advanceWalk w) := by
  unfold State.advanceWalk
  refine Keeps.trans ?_ (readWalk_keeps _ _)
  exact keeps_of_name rfl (.inl (setWalk_name _ _).symm)

theorem replayFailed_keeps : Keeps s s.replayFailed :=
  ((endLong_keeps s _).trans (endReport_keeps _ _)).trans (enterDamaged_keeps _ _)

theorem replayRecord_keeps (bytes : List Byte) : Keeps s (s.replayRecord bytes) := by
  unfold State.replayRecord
  split
  · exact .refl s
  · split
    · exact replayFailed_keeps s
    · split
      · exact keeps_of_view rfl
      · exact advanceWalk_keeps s _

/-- R125: a report's count of pre-images is no part of its end. -/
theorem countReplayed_keeps :
    Keeps s { s with events.report := s.events.report.map fun r => { r with replayed := r.replayed + 1 } } := by
  refine keeps_of_ledger rfl { flag := id, directory := id, generation := id, report := fun hs => ?_, timer := fun _ => id }
  rw [reportWhole_iff] at hs ⊢
  intro r hr
  obtain ⟨q, hq, rfl⟩ := Option.map_eq_some_iff.1 hr
  exact hs q hq

theorem replayWritten_keeps : Keeps s s.replayWritten := by
  unfold State.replayWritten
  split
  · exact .refl s
  · exact (countReplayed_keeps s).trans (advanceWalk_keeps _ _)

/-- R98: a valid anchor slot lists at most 15 entries. -/
theorem directory_of_validAnchor {x : AnchorSlot} {jb : BitVec 4} {js : BitVec 3} {bytes : List Byte} {a : Anchor}
    (h : validAnchor x jb js bytes = some a) : a.directory.length ≤ 15 := by
  unfold validAnchor at h
  split at h
  case isTrue hvalid =>
    obtain ⟨-, -, -, -, hcount⟩ := hvalid
    cases h
    simpa [anchorOf] using hcount
  case isFalse => contradiction

theorem newestAnchor_some {a0 a1 : Option Anchor} {x : AnchorSlot} {a : Anchor} (h : newestAnchor a0 a1 = some (x, a)) :
    a0 = some a ∨ a1 = some a := by
  unfold newestAnchor at h
  split at h
  case h_1 => contradiction
  case h_2 => cases h; exact .inl rfl
  case h_3 => cases h; exact .inr rfl
  case h_4 =>
    split at h
    · cases h; exact .inr rfl
    · split at h
      · cases h; exact .inl rfl
      · split at h
        · cases h; exact .inr rfl
        · cases h; exact .inl rfl

/-- R139: an anchor loaded brings two equal tables, a bounded directory and an epoch with its generation. -/
theorem loadAnchor_keeps (hname : s.name = .anchorRead) (x : AnchorSlot) {a : Anchor} (h : a.directory.length ≤ 15) :
    Keeps s (s.loadAnchor x a) := by
  refine keeps_of_ledger rfl
    { flag := fun _ => ?_, directory := fun _ => decide_eq_true h, generation := fun _ => beq_self_eq_true (generationOf _)
      report := id, timer := fun _ hs => ?_ }
  · change (false == differ a.table a.table) = true
    simp [differ]
  · exact timerPlaced_of_idle (timer_idle_of_untimed (s := s) (by rw [hname]; rfl) hs)

theorem judgeAnchors_keeps (hname : s.name = .anchorRead) (bytes : List Byte) : Keeps s (s.judgeAnchors bytes) := by
  unfold State.judgeAnchors
  split
  case h_1 => exact keeps_of_name rfl (.inr (by rw [hname]; rfl))
  case h_2 x a hnewest =>
    refine loadAnchor_keeps s hname x ?_
    obtain hvalid | hvalid := newestAnchor_some hnewest
    · exact directory_of_validAnchor hvalid
    · exact directory_of_validAnchor hvalid

@[simp] theorem closeEpoch_state (d : DirEntry) : (s.closeEpoch d).jc.state = s.jc.state := by
  unfold State.closeEpoch State.forcedDrop State.overflowDrop
  split <;> split <;> simp [dropOldest_state, State.appendEntry]

variable {s}

theorem beginRedo_keeps (hname : s.name = .recovering) (c : RecoveryCtx) (k : Course) (n : Word) : Keeps s (s.beginRedo c k n) := by
  unfold State.beginRedo
  refine Keeps.trans ?_ (readWalk_keeps _ _)
  exact keeps_of_name rfl (.inl hname)

theorem takeCourse_keeps (hname : s.name = .recovering) (c : RecoveryCtx) (k : Course) : Keeps s (s.takeCourse c k) := by
  cases k
  case redo | undo => exact beginRedo_keeps hname _ _ _
  case broken => exact (emptyRing_keeps s).trans (keeps_of_name rfl (.inl hname))
  case forward =>
    unfold State.takeCourse
    simp only
    split
    case h_1 e i he hfound =>
      have hclosed : (s.closeEpoch (entryOf e i)).name = .recovering := (congrArg Ctl.name (closeEpoch_state s _)).trans hname
      exact (closeEpoch_keeps s _).trans (keeps_of_name rfl (.inl hclosed))
    all_goals exact keeps_of_name rfl (.inl hname)

theorem endScan_keeps (hname : s.name = .recovering) (c : RecoveryCtx) (count head : Nat) : Keeps s (s.endScan c count head) := by
  have hpointers : Keeps s (s.scanPointers count head) := keeps_of_view rfl
  refine (hpointers.trans (beginReport_keeps _ _ _ _ _)).trans (takeCourse_keeps ?_ _ _)
  exact hname

theorem preImageScanned_keeps (s : State) : Keeps s s.preImageScanned := by
  refine keeps_of_view ?_
  cases he : s.jc.epoch <;> simp [State.preImageScanned, State.view, State.fixed, State.name, he]

theorem scanRecord_keeps (hname : s.name = .recovering) (c : RecoveryCtx) (count slot : Nat) (bytes : List Byte) :
    Keeps s (s.scanRecord c count slot bytes) := by
  have hcounted := preImageScanned_keeps s
  unfold State.scanRecord
  simp only
  split
  case h_1 => exact endScan_keeps hname _ _ _
  case h_2 =>
    split
    case h_1 => exact endScan_keeps hname _ _ _
    case h_2 =>
      split
      · exact hcounted.trans (endScan_keeps (s := s.preImageScanned) hname _ _ _)
      · exact hcounted.trans (keeps_of_name rfl (.inl hname))

theorem scanFailed_keeps (s : State) : Keeps s s.scanFailed := by
  unfold State.scanFailed
  split
  case h_1 =>
    split
    case h_1 count slot _ =>
      have hpointers : Keeps s (s.scanPointers count slot) := keeps_of_view rfl
      exact hpointers.trans (enterDamaged_keeps _ _)
    all_goals exact enterDamaged_keeps _ _
  case h_2 => exact enterDamaged_keeps _ _

theorem recordAdded_keeps (s : State) : Keeps s s.recordAdded := keeps_of_view rfl

theorem commitRecordDone_keeps (hname : s.name = .committing) (c : CommitCtx) (i : CommitInfo) :
    Keeps s (s.commitRecordDone c i) := by
  unfold State.commitRecordDone
  split
  case h_1 => exact .refl s
  case h_2 e he =>
    have hclosed := (recordAdded_keeps s).trans (closeEpoch_keeps s.recordAdded (entryOf e i))
    have hstays : (s.recordAdded.closeEpoch (entryOf e i)).name = .committing :=
      (congrArg Ctl.name (closeEpoch_state s.recordAdded _)).trans hname
    simp only
    split <;> exact hclosed.trans (keeps_of_name rfl (.inl hstays))

/-- R33: OPEN, or UNGUARDED where a condition holds. -/
theorem restName (p : Prop) [Decidable p] :
    (if p then Ctl.unguarded else .opened).name = .opened ∨ (if p then Ctl.unguarded else .opened).name = .unguarded := by
  split
  · exact .inr rfl
  · exact .inl rfl

/-- R86: the controller returns, restarts the timer and offers the latches. -/
theorem commitRecordFailed_keeps (s : State) : Keeps s s.commitRecordFailed := by
  have hname : s.commitRecordGivenUp.name = .opened ∨ s.commitRecordGivenUp.name = .unguarded := restName _
  have hreturned : Keeps s s.commitRecordGivenUp :=
    ((endLong_keeps s .failed).trans (unmark_keeps _)).trans (keeps_of_started rfl hname rfl)
  exact hreturned.trans (offerLatches_keepsLaws _)

theorem commitComplete_keeps (s : State) (c : CommitCtx) : Keeps s (s.commitComplete c) :=
  ((((endLong_keeps s .done).trans (raise_keeps _ .committed)).trans (raiseIf_keeps _ c.dropped .reclaimed)).trans
    (unmark_keeps _)).trans (keeps_of_started rfl (.inl rfl) rfl)

theorem intentDone_keeps (hname : s.name = .rollingBack) (c : RollbackCtx) : Keeps s (s.intentDone c) := by
  unfold State.intentDone
  refine Keeps.trans ?_ (readWalk_keeps _ _)
  exact (beginReport_keeps s _ _ _ _).trans (keeps_of_name rfl (.inl hname))

theorem intentFailed_keeps (s : State) : Keeps s s.intentFailed := by
  refine Keeps.trans ?_ (offerLatches_keepsLaws _)
  exact ((endLong_keeps s .failed).trans (unmark_keeps _)).trans (keeps_of_started rfl (.inl rfl) rfl)

theorem rollbackComplete_keeps (s : State) : Keeps s s.rollbackComplete :=
  (((((endLong_keeps s .done).trans (endReport_keeps _ .complete)).trans (raise_keeps _ .rolledBack)).trans
    (raiseIf_keeps _ s.lines.ckptLatch .lineDiscarded)).trans (unmark_keeps _)).trans (keeps_of_started rfl (.inl rfl) rfl)

theorem recoveryComplete_keeps (s : State) (c : RecoveryCtx) (k : Course) : Keeps s (s.recoveryComplete c k) := by
  have hname : (s.recovered c k).name = .opened ∨ (s.recovered c k).name = .unguarded := restName _
  have hrecovered : Keeps s (s.recovered c k) :=
    ((((endReport_keeps s k.outcome).trans (raise_keeps _ .recovered)).trans (raiseIf_keeps _ (k == .broken) .unguarded)).trans
      (raiseIf_keeps _ (k == .forward && c.dropped) .reclaimed)).trans (keeps_of_started rfl hname rfl)
  rw [recoveryComplete_eq]
  exact hrecovered.trans (examineHead_keeps _)

/-- R79: a timer paused goes on in OPEN or UNGUARDED where there is no halt. -/
theorem timerPlaced_of_resumed (hreset : s.inReset = false) (hname : s.name = .opened ∨ s.name = .unguarded) {timer : AutoTimer}
    (hpaused : timer = .idle ∨ ∃ ms, timer = .paused ms) (htimer : s.jc.timer = if s.lines.halt then timer else timer.resume) :
    s.timerPlaced = true := by
  rw [timerPlaced_iff]
  obtain rfl | ⟨ms, rfl⟩ := hpaused
  · refine .inl (htimer.trans ?_)
    split <;> rfl
  · refine .inr ⟨hreset, .inl ⟨hname, ?_⟩⟩
    cases hhalt : s.lines.halt <;> simp [htimer, hhalt, AutoTimer.resume]

theorem paused_of_discarding (hname : s.name = .discarding) (h : s.timerPlaced = true) :
    s.jc.timer = .idle ∨ ∃ ms, s.jc.timer = .paused ms := by
  rw [timerPlaced_iff, hname] at h
  obtain hidle | ⟨-, ⟨hrest, -⟩ | ⟨-, hpaused⟩⟩ := h
  · exact .inl hidle
  · simp at hrest
  · exact .inr hpaused

/-- R108: what the discard frees leaves the directory, and the controller returns. -/
def State.discardEnded (s : State) (c : DiscardCtx) : State :=
  { s with
    jc.directory := s.jc.directory.drop c.count
    jc.tail := c.newTail
    jc.occupancy := s.jc.occupancy - c.freed
    jc.state := if c.fromUnguarded then .unguarded else .opened
    jc.timer := if s.lines.halt then s.jc.timer else s.jc.timer.resume }

theorem discardComplete_eq (s : State) (c : DiscardCtx) : s.discardComplete c = (s.endLong .done).discardEnded c := rfl

/-- R79, R108: a timer paused by the discard goes on where there is no halt, and fewer entries are listed. -/
theorem discardEnded_keeps (hname : s.name = .discarding) (c : DiscardCtx) : Keeps s (s.discardEnded c) := by
  refine keeps_of_ledger rfl
    { flag := id, directory := fun h => ?_, generation := id, report := id, timer := fun hreset hs => ?_ }
  · rw [State.directoryBounded, decide_eq_true_eq] at h ⊢
    exact (List.drop_sublist ..).length_le.trans h
  · exact timerPlaced_of_resumed (s := s.discardEnded c) hreset (restName _) (paused_of_discarding hname hs) rfl

@[simp] theorem endLong_name (s : State) (r : LongResult) : (s.endLong r).name = s.name := by
  unfold State.endLong
  split <;> rfl

theorem discardComplete_keeps (hname : s.name = .discarding) (c : DiscardCtx) : Keeps s (s.discardComplete c) := by
  rw [discardComplete_eq]
  exact (endLong_keeps s .done).trans (discardEnded_keeps ((endLong_name s _).trans hname) c)

theorem clearingComplete_keeps (s : State) : Keeps s s.clearingComplete :=
  (endLong_keeps s _).trans (keeps_of_started rfl (.inl rfl) rfl)

theorem reclaimDone_keeps (s : State) : Keeps s s.reclaimDone := by
  have hraised := raise_keeps s .reclaimed
  unfold State.reclaimDone
  simp only
  split
  case h_1 =>
    split
    · exact keeps_of_view rfl
    · split
      · exact hraised.trans (reclaimStep_keeps _)
      · exact hraised.trans (unguardStep_keeps _)
  all_goals exact keeps_of_view rfl

/-- R60, R61: a save in ROOM is released, and its head claims its own transaction. -/
theorem unguardDone_keeps (s : State) : Keeps s s.unguardDone := by
  have hended : Keeps s s.unguardEnded := by
    refine keeps_of_timer rfl fun hreset hs => ?_
    by_cases hopened : s.jc.state = .opened
    · have hname : s.unguardEnded.name = .unguarded := by simp [State.unguardEnded, State.name, hopened, Ctl.name]
      have hstood : s.name = .opened := congrArg Ctl.name hopened
      rw [timerPlaced_iff, hname]
      rw [timerPlaced_iff, hstood] at hs
      simpa [State.unguardEnded, State.raise] using hs
    · have hname : s.unguardEnded.name = s.name := by simp [State.unguardEnded, State.name, hopened]
      rw [timerPlaced_congr (s := s) (t := s.unguardEnded) rfl rfl rfl hname]
      exact hs
  by_cases hroom : ∃ g n, s.save = .room g n
  · obtain ⟨g, n, hsave⟩ := hroom
    rw [unguardDone_of_room hsave]
    refine hended.trans { perform_follows _ true with path := fun h => ?_ }
    have hwaits : s.unguardEnded.front.phase = .waiting ∧ s.unguardEnded.front.queue ≠ [] :=
      h.saving (by simp [State.unguardEnded, hsave])
    obtain ⟨hphase, hne⟩ := hwaits
    obtain ⟨e, rest, hqueue⟩ := List.exists_cons_of_ne_nil hne
    refine perform_path hqueue h.single (h.outstanding.trans ?_) true
    have hsaves : s.unguardEnded.save = .room g n := hsave
    simp [State.inProgress, hphase, hsaves]
  · rw [unguardDone_of_not_room fun g n hsave => hroom ⟨g, n, hsave⟩]
    exact hended

theorem requesterDone_keeps (s : State) (r : Requester) : Keeps s (s.requesterDone r) := by
  unfold State.requesterDone
  split
  case h_1 => exact reclaimDone_keeps s
  case h_2 => exact unguardDone_keeps s
  case h_3 => exact commitComplete_keeps s _
  case h_4 hk => exact intentDone_keeps (congrArg Ctl.name hk) _
  case h_5 => exact rollbackComplete_keeps s
  case h_6 =>
    split
    · exact recoveryComplete_keeps s _ _
    all_goals exact .refl s
  case h_7 hk => exact discardComplete_keeps (congrArg Ctl.name hk) _
  case h_8 => exact clearingComplete_keeps s
  case h_9 => exact .refl s

theorem requesterFailed_keeps (s : State) (r : Requester) : Keeps s (s.requesterFailed r) := by
  cases r
  case intent => exact intentFailed_keeps s
  case completion => exact ((endLong_keeps s _).trans (endReport_keeps _ _)).trans (enterDamaged_keeps _ _)
  case recovery => exact (endReport_keeps s _).trans (enterDamaged_keeps _ _)
  all_goals exact (endLong_keeps s _).trans (enterDamaged_keeps _ _)

theorem updateDone_keeps (s : State) : Keeps s s.updateDone := by
  unfold State.updateDone
  split
  · exact .refl s
  · refine Keeps.trans ?_ (requesterDone_keeps _ _)
    exact keeps_of_view rfl

theorem updateFailed_keeps (s : State) : Keeps s s.updateFailed := by
  unfold State.updateFailed
  split
  · exact .refl s
  · refine Keeps.trans ?_ (requesterFailed_keeps _ _)
    exact keeps_of_view rfl

theorem slot0Done_keeps (hname : s.name = .formatting) (c : FormatCtx) : Keeps s (s.slot0Done c) := by
  refine Keeps.trans ?_ (openEpoch_keeps _ _ _)
  exact (emptyRing_keeps s).trans (keeps_of_name rfl (.inl hname))

theorem formatWorkDone_keeps (hname : s.name = .formatting) (o : Owner) (c : FormatCtx) : Keeps s (s.formatWorkDone o c) := by
  unfold State.formatWorkDone
  split
  case h_1 =>
    unfold State.scrubDone
    split
    · exact formatTo_keeps hname _ _ _ _
    · exact invalidate_keeps hname c
  case h_2 | h_3 => exact formatTo_keeps hname _ _ _ _
  case h_4 => exact slot0Done_keeps hname c
  case h_5 => exact .refl s

/-- R157: the end of a transfer, for each owner of one. -/
theorem workDone_keeps (s : State) (o : Owner) (bytes : List Byte) : Keeps s (s.workDone o bytes) := by
  unfold State.workDone
  split
  case h_1 hk => exact judgeAnchors_keeps s (congrArg Ctl.name hk) _
  case h_2 hk =>
    split
    · exact scanRecord_keeps (congrArg Ctl.name hk) _ _ _ _
    all_goals exact .refl s
  case h_3 => exact replayRecord_keeps s _
  case h_4 => exact replayWritten_keeps s
  case h_5 hk =>
    split
    · exact commitRecordDone_keeps (congrArg Ctl.name hk) _ _
    all_goals exact .refl s
  case h_6 => exact updateDone_keeps s
  case h_7 hk => exact formatWorkDone_keeps (congrArg Ctl.name hk) _ _
  case h_8 => exact .refl s

theorem workFailed_keeps (s : State) (o : Owner) : Keeps s (s.workFailed o) := by
  cases o
  case scan => exact scanFailed_keeps s
  case replayRead | replayWrite => exact replayFailed_keeps s
  case commitRecord => exact commitRecordFailed_keeps s
  case update => exact updateFailed_keeps s
  all_goals exact .refl s

theorem controllerResponse_keeps (s : State) (a : MemAnswer) : Keeps s (s.controllerResponse a) := by
  have hended : Keeps s { s with jc.work := none } := keeps_of_view rfl
  unfold State.controllerResponse
  split
  case h_1 => exact .refl s
  case h_2 =>
    split
    case h_1 => exact .refl s
    case h_2 =>
      split
      case h_1 =>
        simp only
        split
        · exact .refl s
        · exact hended.trans (workFailed_keeps _ _)
      case h_2 =>
        simp only
        split
        · exact hended.trans (workDone_keeps _ _ _)
        · exact keeps_of_view rfl

end Transfers

end Sys2Proof.Machine
end

section
/-! SUPPORT. What an event's first effect keeps, and what its end establishes (R3, R155, R156, R158, R178): the laws of StepKeepsTheLaws
and the port's discipline, for an event as a whole. -/

namespace Sys2Proof.Machine

/-! ### The laws kept -/

/-- The laws of StepKeepsTheLaws, each kept by itself. -/
structure LawsKept (s t : State) : Prop where
  flag : s.flagExact = true → t.flagExact = true
  queue : s.queueBounded = true → t.queueBounded = true
  directory : s.directoryBounded = true → t.directoryBounded = true
  tags : s.tags.store.wf = true → t.tags.store.wf = true
  qualifiers : s.qualifiersBounded = true → t.qualifiersBounded = true
  timer : s.timerPlaced = true → t.timerPlaced = true
  hold : s.holdPlaced = true → t.holdPlaced = true
  generation : s.generationExact = true → t.generationExact = true
  report : s.reportWhole = true → t.reportWhole = true
  frame : s.frameIdle = true → t.frameIdle = true
  quiet : s.quietReset = true → t.quietReset = true

theorem LawsKept.trans {r s t : State} (h : LawsKept r s) (k : LawsKept s t) : LawsKept r t where
  flag := k.flag ∘ h.flag
  queue := k.queue ∘ h.queue
  directory := k.directory ∘ h.directory
  tags := k.tags ∘ h.tags
  qualifiers := k.qualifiers ∘ h.qualifiers
  timer := k.timer ∘ h.timer
  hold := k.hold ∘ h.hold
  generation := k.generation ∘ h.generation
  report := k.report ∘ h.report
  frame := k.frame ∘ h.frame
  quiet := k.quiet ∘ h.quiet

/-- The laws are kept, and the part is out of reset. -/
structure LiveKept (s t : State) : Prop extends LawsKept s t where
  live : t.inReset = false

/-- What an event's first effect keeps: the laws, and of the port's discipline what stands before the grants. -/
structure Effect (s t : State) : Prop extends LiveKept s t where
  path : s.PathLaw → t.PathLaw

theorem quietReset_of_live {s : State} (h : s.inReset = false) : s.quietReset = true := by
  simp [State.quietReset, h]

theorem frameIdle_congr {s t : State} (hreset : t.inReset = s.inReset) (hlow : t.link.csLow = s.link.csLow)
    (hpos : t.link.pos = s.link.pos) : t.frameIdle = s.frameIdle := by
  rw [State.frameIdle, State.frameIdle, hreset, hlow, hpos]

theorem qualifiersBounded_congr {s t : State} (h : (t.lines.ckpt, t.lines.fallback) = (s.lines.ckpt, s.lines.fallback)) :
    t.qualifiersBounded = s.qualifiersBounded := by
  have hckpt : t.lines.ckpt = s.lines.ckpt := congrArg Prod.fst h
  have hfallback : t.lines.fallback = s.lines.fallback := congrArg Prod.snd h
  rw [State.qualifiersBounded, State.qualifiersBounded, hckpt, hfallback]

theorem Follows.laws {s t : State} (h : Follows s t) (hreset : s.inReset = false) : LawsKept s t where
  flag := h.flag
  queue := h.queue
  directory := h.directory
  tags hs := by rw [show t.tags.store = s.tags.store from congrArg Fixed.store h.fixed]; exact hs
  qualifiers hs := by rw [qualifiersBounded_congr (congrArg Fixed.qualifiers h.fixed)]; exact hs
  timer := h.timer hreset
  hold := h.hold
  generation := h.generation
  report := h.report
  frame hs := by
    have hdecoder := congrArg Fixed.decoder h.fixed
    rw [frameIdle_congr h.inReset (congrArg (·.2.1) hdecoder) (congrArg Prod.fst hdecoder)]
    exact hs
  quiet _ := quietReset_of_live (h.inReset.trans hreset)

theorem Follows.liveKept {s t : State} (h : Follows s t) (hreset : s.inReset = false) : LiveKept s t :=
  { h.laws hreset with live := h.inReset.trans hreset }

theorem LiveKept.trans {r s t : State} (h : LiveKept r s) (k : LiveKept s t) : LiveKept r t :=
  { h.toLawsKept.trans k.toLawsKept with live := k.live }

theorem Keeps.effect {s t : State} (h : Keeps s t) (hreset : s.inReset = false) : Effect s t :=
  { h.toFollows.liveKept hreset with path := h.path }

theorem Effect.trans {r s t : State} (h : Effect r s) (k : Effect s t) : Effect r t :=
  { h.toLiveKept.trans k.toLiveKept with path := k.path ∘ h.path }

theorem LiveKept.refl {s : State} (hreset : s.inReset = false) : LiveKept s s := (Keeps.refl s).toFollows.liveKept hreset

theorem Effect.refl {s : State} (hreset : s.inReset = false) : Effect s s := (Keeps.refl s).effect hreset

theorem LawsKept.refl (s : State) : LawsKept s s := ⟨id, id, id, id, id, id, id, id, id, id, id⟩

/-! ### The controller's claim and the grant (R155, R156, R158) -/

theorem raiseCtlClaim_same_or_claims (s : State) : s.raiseCtlClaim = s ∨ s.port.ctlOutstanding = false ∧
    ∃ t, s.raiseCtlClaim = { s with port.ctlClaim := some t } := by
  unfold State.raiseCtlClaim
  split
  case isTrue => exact .inl rfl
  case isFalse hfree =>
    have hout : s.port.ctlOutstanding = false := by
      rw [Bool.not_eq_true, Bool.or_eq_false_iff] at hfree
      exact hfree.2
    split
    case h_1 => exact .inl rfl
    case h_2 =>
      split
      · exact .inl rfl
      · exact .inr ⟨hout, _, rfl⟩

theorem raiseCtlClaim_path {s : State} (h : s.PathLaw) : s.raiseCtlClaim.PathLaw := by
  obtain heq | ⟨hout, t, heq⟩ := raiseCtlClaim_same_or_claims s
  · rw [heq]
    exact h
  · rw [heq]
    refine ⟨?_, h.outstanding, h.headed, h.saving⟩
    have hsingle := h.single
    cases hflight : s.port.inFlight with
    | none => simp [Port.single, hflight]
    | some f =>
      obtain ⟨c | c, q⟩ := f
      · simpa [Port.single, hflight] using hsingle
      · simp [Port.ctlOutstanding, hflight] at hout

/-- R158: what the arbiter does: nothing, or one claimant's claim is granted at a free port. -/
theorem arbitrate_same_or_grants (s : State) (w : Bool) : s.arbitrate w = s ∧ s.port.busyWhileClaimed = true ∨
    s.port.inFlight = none ∧ ∃ n,
      (∃ r, s.port.reqClaim = some r ∧ s.arbitrate w = { s with port := s.port.grant .request, freeIndex := n }) ∨
      ∃ r, s.port.ctlClaim = some r ∧ s.arbitrate w = { s with port := s.port.grant .controller, freeIndex := n } := by
  unfold State.arbitrate
  split
  case isTrue hbusy => exact .inl ⟨rfl, by simp [Port.busyWhileClaimed, hbusy]⟩
  case isFalse hfree =>
    have hfree : s.port.inFlight = none := by simpa using hfree
    split
    case h_1 hreq hctl => exact .inl ⟨rfl, by simp [Port.busyWhileClaimed, hreq, hctl]⟩
    case h_2 r hreq hctl => exact .inr ⟨hfree, s.freeIndex, .inl ⟨r, hreq, rfl⟩⟩
    case h_3 r hreq hctl => exact .inr ⟨hfree, s.freeIndex, .inr ⟨r, hctl, rfl⟩⟩
    case h_4 r q hreq hctl =>
      refine .inr ⟨hfree, ?_⟩
      split
      · cases s.port.lastGrant
        · exact ⟨s.freeIndex, .inr ⟨q, hctl, rfl⟩⟩
        · exact ⟨s.freeIndex, .inl ⟨r, hreq, rfl⟩⟩
      · split
        · exact ⟨s.freeIndex, .inl ⟨r, hreq, rfl⟩⟩
        · split
          · exact ⟨s.freeIndex + 1, .inl ⟨r, hreq, rfl⟩⟩
          · exact ⟨s.freeIndex + 1, .inr ⟨q, hctl, rfl⟩⟩

/-- R158: after the grant no claim waits at a free port. -/
theorem arbitrate_busyWhileClaimed (s : State) (w : Bool) : (s.arbitrate w).port.busyWhileClaimed = true := by
  obtain ⟨heq, hbusy⟩ | ⟨-, n, ⟨r, hr, heq⟩ | ⟨r, hr, heq⟩⟩ := arbitrate_same_or_grants s w
  · rw [heq]
    exact hbusy
  · rw [heq, grant_request hr]
    rfl
  · rw [heq, grant_controller hr]
    rfl

theorem arbitrate_path {s : State} (h : s.PathLaw) (w : Bool) : (s.arbitrate w).PathLaw := by
  have hout := h.outstanding
  obtain ⟨heq, -⟩ | ⟨hfree, n, ⟨r, hr, heq⟩ | ⟨r, hr, heq⟩⟩ := arbitrate_same_or_grants s w
  · rw [heq]
    exact h
  · rw [heq, grant_request hr]
    exact ⟨rfl, (show Port.reqOutstanding _ = s.port.reqOutstanding by simp [Port.reqOutstanding, hr]).trans hout, h.headed, h.saving⟩
  · rw [heq, grant_controller hr]
    exact ⟨rfl, (show Port.reqOutstanding _ = s.port.reqOutstanding by simp [Port.reqOutstanding, hfree]).trans hout, h.headed,
      h.saving⟩

/-- R3, R158: at an event's end the port is disciplined. -/
theorem finish_portDisciplined {s : State} (h : s.PathLaw) (w : Bool) : (s.finish w).portDisciplined = true :=
  (portDisciplined_iff _).2
    ⟨arbitrate_path (raiseCtlClaim_path ((settle_keepsLaws s).path h)) w, arbitrate_busyWhileClaimed _ w⟩

end Sys2Proof.Machine
end

section
/-! SUPPORT. When nothing is left to do inside an event (R13, R78, R117, R158): each test says when one kind of step is none, and reads
neither the port nor the free values. -/

namespace Sys2Proof.Machine

/-! ### No step of the controller -/

/-- When the controller has no step to make. -/
def State.ctlIdle (s : State) : Bool :=
  match s.jc.state with
  | .anchorRead => s.jc.work.isSome
  | .recovering c =>
    match c.step with
    | .replay _ w => w.left != 0
    | .tagWait _ => s.tags.done != .all
    | _ => true
  | .committing c =>
    match c.step with
    | .drain => !(s.noneMarked && s.jc.epoch.isSome)
    | .record _ => !(s.jc.room.isNone && s.jc.work.isNone)
    | .tagWait => !s.tags.mayOpen (s.openNumber.toNat + 1)
    | .anchor => true
  | .rollingBack c =>
    match c.step with
    | .drain => !s.noneMarked || s.jc.room == some .reclaim
    | .replay w => w.left != 0
    | .tagWait => !s.tags.mayOpen (c.openNumber.toNat + 1)
    | _ => true
  | .discarding _ => !(s.jc.room.isNone && s.jc.work.isNone)
  | .formatting c =>
    match c.step with
    | .headWait => s.inProgress || s.jc.room.isSome
    | .apply => s.inProgress
    | .clear => s.tags.done != .all
    | _ => true
  | .clearing c =>
    match c.step with
    | .headWait => s.inProgress
    | .clear => s.tags.done != .all
    | .apply => s.inProgress
    | .anchor => true
  | _ => true

section Controller

variable (s : State)

theorem recoveryStep_isNone (c : RecoveryCtx) : (s.recoveryStep c).isNone = match c.step with
    | .replay _ w => w.left != 0
    | .tagWait _ => s.tags.done != .all
    | _ => true := by
  unfold State.recoveryStep
  cases c.step
  case replay k w => by_cases h : w.left = 0 <;> simp [h]
  case tagWait k => by_cases h : s.tags.done = .all <;> simp [h]
  all_goals rfl

theorem commitStep_isNone (c : CommitCtx) : (s.commitStep c).isNone = match c.step with
    | .drain => !(s.noneMarked && s.jc.epoch.isSome)
    | .record _ => !(s.jc.room.isNone && s.jc.work.isNone)
    | .tagWait => !s.tags.mayOpen (s.openNumber.toNat + 1)
    | .anchor => true := by
  unfold State.commitStep
  cases c.step
  case drain => cases s.noneMarked && s.jc.epoch.isSome <;> simp
  case record i => cases s.jc.room.isNone && s.jc.work.isNone <;> simp
  case tagWait => cases s.tags.mayOpen (s.openNumber.toNat + 1) <;> simp
  case anchor => rfl

theorem rollbackDrained_isNone (c : RollbackCtx) : (s.rollbackDrained c).isNone = (s.jc.room == some .reclaim) := by
  unfold State.rollbackDrained
  obtain hroom | hroom | hroom : s.jc.room = none ∨ s.jc.room = some .unguard ∨ s.jc.room = some .reclaim := by
    cases s.jc.room with
    | none => exact .inl rfl
    | some op => cases op <;> simp
  all_goals
    rw [hroom]
    rfl

theorem rollbackStep_isNone (c : RollbackCtx) : (s.rollbackStep c).isNone = match c.step with
    | .drain => !s.noneMarked || s.jc.room == some .reclaim
    | .replay w => w.left != 0
    | .tagWait => !s.tags.mayOpen (c.openNumber.toNat + 1)
    | _ => true := by
  unfold State.rollbackStep
  cases c.step
  case drain => cases s.noneMarked <;> simp [rollbackDrained_isNone]
  case replay w => by_cases h : w.left = 0 <;> simp [h]
  case tagWait => cases s.tags.mayOpen (c.openNumber.toNat + 1) <;> simp
  all_goals rfl

theorem discardStep_isNone (c : DiscardCtx) : (s.discardStep c).isNone = !(s.jc.room.isNone && s.jc.work.isNone) := by
  unfold State.discardStep
  cases s.jc.room.isNone && s.jc.work.isNone <;> simp

theorem formatStep_isNone (c : FormatCtx) : (s.formatStep c).isNone = match c.step with
    | .headWait => s.inProgress || s.jc.room.isSome
    | .apply => s.inProgress
    | .clear => s.tags.done != .all
    | _ => true := by
  unfold State.formatStep
  cases c.step
  case headWait => cases s.inProgress || s.jc.room.isSome <;> simp
  case apply => cases s.inProgress <;> simp
  case clear => by_cases h : s.tags.done = .all <;> simp [h]
  all_goals rfl

theorem clearingStep_isNone (c : ClearCtx) : (s.clearingStep c).isNone = match c.step with
    | .headWait => s.inProgress
    | .clear => s.tags.done != .all
    | .apply => s.inProgress
    | .anchor => true := by
  unfold State.clearingStep
  cases c.step
  case headWait | apply => cases s.inProgress <;> simp
  case clear => by_cases h : s.tags.done = .all <;> simp [h]
  case anchor => rfl

theorem ctlStep_isNone : s.ctlStep.isNone = s.ctlIdle := by
  unfold State.ctlStep State.ctlIdle
  cases s.jc.state
  case anchorRead => cases s.jc.work <;> simp
  case recovering c => exact recoveryStep_isNone s c
  case committing c => exact commitStep_isNone s c
  case rollingBack c => exact rollbackStep_isNone s c
  case discarding c => exact discardStep_isNone s c
  case formatting c => exact formatStep_isNone s c
  case clearing c => exact clearingStep_isNone s c
  all_goals rfl

end Controller

/-! ### No offer of a latch, no examination of the head, no request accepted -/

/-- When neither latch is offered to anything. -/
def State.offersIdle (s : State) : Bool :=
  !(s.lines.ckptLatch && s.canCommit) && !(s.lines.fallbackLatch && (s.canFallback || s.dropsFallback))

/-- R65: when a save in ROOM goes on waiting. -/
def State.roomIdle (s : State) : Bool :=
  s.name == .discarding || (s.name == .opened || s.name == .committing || s.name == .rollingBack) && s.jc.room.isSome

/-- R17: when a head already waits for what it has to wait for. -/
def State.awaits (s : State) (e : Entry) : Bool :=
  match s.headAction e with
  | .wait r => decide (s.front.holdReason = some r)
  | _ => false

/-- R13: when an examination of the head changes nothing. -/
def State.headIdle (s : State) : Bool :=
  s.inProgress || match s.front.queue with
    | [] => true
    | e :: _ => !s.lines.halt && match s.save with
      | .room _ _ => s.roomIdle
      | .idle => s.awaits e
      | _ => true

/-- R2: when no presented request is accepted. -/
def State.acceptIdle (s : State) : Bool := s.front.presented.isEmpty || decide (4 ≤ s.front.queue.length)

/-- When no step inside an event is left. -/
def State.stepIdle (s : State) : Bool := s.ctlIdle && s.offersIdle && s.headIdle && s.acceptIdle

section Offers

variable (s : State)

theorem offerCkpt_isNone : s.offerCkpt.isNone = !(s.lines.ckptLatch && s.canCommit) := by
  unfold State.offerCkpt
  cases s.lines.ckptLatch && s.canCommit <;> simp

theorem offerFallback_isNone : s.offerFallback.isNone = !(s.lines.fallbackLatch && (s.canFallback || s.dropsFallback)) := by
  unfold State.offerFallback
  cases s.lines.fallbackLatch
  case false => rfl
  case true =>
    cases hcan : s.canFallback
    case true => simp
    case false => cases hdrop : s.dropsFallback <;> simp

theorem eitherFirst_isNone (first : Bool) (a b : State → Option State)
    (ha : (a s.drawn).isNone = (a s).isNone) (hb : (b s.drawn).isNone = (b s).isNone) :
    (eitherFirst first s a b).isNone = ((a s).isNone && (b s).isNone) := by
  unfold eitherFirst
  cases hsa : a s <;> cases hsb : b s
  case some.some =>
    rw [hsa] at ha
    rw [hsb] at hb
    cases first
    · simpa using hb
    · simpa using ha
  all_goals rfl

theorem offerStep_isNone : s.offerStep.isNone = s.offersIdle := by
  unfold State.offerStep
  rw [eitherFirst_isNone]
  case ha => rw [offerCkpt_isNone, offerCkpt_isNone]; rfl
  case hb => rw [offerFallback_isNone, offerFallback_isNone]; rfl
  rw [offerCkpt_isNone, offerFallback_isNone]
  rfl

end Offers

section Head

variable (s : State)

theorem roomStep_isNone (g n : Nat) : (s.roomStep g n).isNone = s.roomIdle := by
  unfold State.roomStep State.roomIdle
  cases s.name
  case opened | committing | rollingBack =>
    cases s.jc.room.isSome
    case true => rfl
    case false => by_cases h : 2 ≤ s.free <;> simp [h]
  all_goals rfl

theorem act_isNone (a : HeadAction) (e : Entry) : (s.act a e).isNone = match a with
    | .wait r => decide (s.front.holdReason = some r)
    | _ => false := by
  cases a
  case wait r => by_cases h : s.front.holdReason = some r <;> simp [State.act, h]
  all_goals rfl

theorem headStep_isNone : s.headStep.isNone = s.headIdle := by
  unfold State.headStep State.headIdle
  cases s.inProgress
  case true => rfl
  case false =>
    cases s.front.queue
    case nil => rfl
    case cons e rest =>
      cases s.lines.halt
      case true => rfl
      case false =>
        cases s.save
        case idle => exact act_isNone s _ e
        case room g n => exact roomStep_isNone s g n
        all_goals rfl

theorem acceptStep_isNone : s.acceptStep.isNone = s.acceptIdle := by
  unfold State.acceptStep State.acceptIdle
  cases s.front.presented
  case nil => rfl
  case cons r rest => 
    by_cases h : s.front.queue.length < 4
    · simp [h]
    · simp [h, Nat.not_lt.1 h]

theorem frontStep_isNone : s.frontStep.isNone = (s.headIdle && s.acceptIdle) := by
  rw [← headStep_isNone, ← acceptStep_isNone]
  unfold State.frontStep
  cases s.headStep <;> rfl

theorem internalStep_isNone : s.internalStep.isNone = s.stepIdle := by
  have hfirst : ∀ first, (eitherFirst first s State.offerStep State.frontStep).isNone =
      (s.offersIdle && (s.headIdle && s.acceptIdle)) := by
    intro first
    rw [eitherFirst_isNone]
    case ha => rw [offerStep_isNone, offerStep_isNone]; rfl
    case hb => rw [frontStep_isNone, frontStep_isNone]; rfl
    rw [offerStep_isNone, frontStep_isNone]
  have hctl := ctlStep_isNone s
  unfold State.internalStep State.stepIdle
  cases hstep : s.ctlStep with
  | none =>
    rw [hstep] at hctl
    simp only [← hctl, hfirst, Option.isNone_none, Bool.true_and, Bool.and_assoc]
  | some t =>
    rw [hstep] at hctl
    simp [← hctl]

theorem stepIdle_iff (s : State) : s.stepIdle = true ↔
    s.ctlIdle = true ∧ s.offersIdle = true ∧ s.headIdle = true ∧ s.acceptIdle = true := by
  simp only [State.stepIdle, Bool.and_eq_true, and_assoc]

theorem internalStep_eq_none_iff : s.internalStep = none ↔ s.stepIdle = true := by
  rw [← internalStep_isNone, Option.isNone_iff_eq_none]

end Head

end Sys2Proof.Machine
end

section
/-! SUPPORT. Inside an event the steps come to an end (log 26): each step makes a weight smaller that the fuel of an event bounds. -/

namespace Sys2Proof.Machine

/-! ### The weight -/

/-- How many steps the controller can make in a row from a state, no memory transaction ending meanwhile. -/
def Ctl.rank (working : Bool) : Ctl → Nat
  | .anchorRead => if working then 0 else 1
  | .recovering c =>
    match c.step with
    | .replay _ _ => 2
    | .tagWait _ => 1
    | _ => 0
  | .committing c =>
    match c.step with
    | .drain => 2
    | .record _ => if working then 0 else 1
    | .tagWait => 1
    | .anchor => 0
  | .rollingBack c =>
    match c.step with
    | .drain => 2
    | .replay _ => 2
    | .tagWait => 1
    | _ => 0
  | .discarding _ => if working then 0 else 1
  | .formatting c =>
    match c.step with
    | .headWait => 1
    | .apply => 2
    | .clear => 1
    | _ => 0
  | .clearing c =>
    match c.step with
    | .headWait => 3
    | .clear => 2
    | .apply => 1
    | .anchor => 0
  | _ => 0

def State.rank (s : State) : Nat := s.jc.state.rank s.jc.work.isSome

/-- How often the head can still change by examinations alone: a save in ROOM can end and its head be examined again. -/
def State.headRank (s : State) : Nat :=
  if s.headIdle then 0
  else match s.save with
    | .room _ _ => 2
    | _ => 1

/-- R2, R165: the requests queued and presented, and the latches that are full. -/
def State.load (s : State) : Nat × Nat × Nat :=
  (s.front.queue.length, s.front.presented.length, s.lines.ckptLatch.toNat + s.lines.fallbackLatch.toNat)

/-- An offer can start an operation of the controller, so a latch weighs more than such an operation has steps; each of these, and each
answer, can set a waiting head going. -/
def State.weight (s : State) : Nat :=
  3 * (s.rank + 3 * s.load.2.2) + s.headRank + 2 * s.load.1 + 5 * s.load.2.1

theorem Ctl.rank_le (working : Bool) (k : Ctl) : k.rank working ≤ 3 := by
  unfold Ctl.rank
  repeat' split
  all_goals simp

theorem headRank_le (s : State) : s.headRank ≤ 2 := by
  unfold State.headRank
  split
  · simp
  · split <;> simp

theorem headRank_of_idle {s : State} (h : s.headIdle = true) : s.headRank = 0 := if_pos h

theorem headRank_pos {s t : State} (h : s.headStep = some t) : 1 ≤ s.headRank := by
  have hidle : ¬s.headIdle = true := by rw [← headStep_isNone, h]; simp
  rw [State.headRank, if_neg hidle]
  split <;> simp

theorem weight_le_fuel (s : State) : s.weight ≤ s.fuel := by
  have hrank := Ctl.rank_le s.jc.work.isSome s.jc.state
  have hhead := headRank_le s
  have hckpt := Bool.toNat_le s.lines.ckptLatch
  have hfallback := Bool.toNat_le s.lines.fallbackLatch
  simp only [State.weight, State.fuel, State.load, State.rank]
  omega

/-- A step that brings the controller on, and leaves requests and latches as many as they were, makes the weight smaller. -/
theorem weight_lt_of_rank {s t : State} (hload : t.load = s.load) (hrank : t.rank < s.rank) : t.weight < s.weight := by
  have hhead := headRank_le t
  simp only [State.weight, hload]
  omega

/-! ### The controller's own steps -/

section Controller

variable {s t : State}

/-- What the controller's steps do to the weight. -/
def State.Advances (s t : State) : Prop := t.load = s.load ∧ t.rank < s.rank

@[simp] theorem endLong_load (s : State) (r : LongResult) : (s.endLong r).load = s.load := by
  unfold State.endLong
  split <;> rfl

@[simp] theorem unmark_load (s : State) : s.unmark.load = s.load := by
  simp [State.unmark, State.load, unmarkAll]

@[simp] theorem enterDamaged_load (s : State) (k : Cause) : (s.enterDamaged k).load = s.load := by
  simp [State.enterDamaged, State.load, State.raise, unmarkAll]

theorem recoveryStep_advances {c : RecoveryCtx} (hk : s.jc.state = .recovering c) (h : s.recoveryStep c = some t) :
    s.Advances t := by
  unfold State.recoveryStep at h
  split at h
  case h_2 k w hstep =>
    have hrank : s.rank = 2 := by simp [State.rank, Ctl.rank, hk, hstep]
    split at h
    · cases h
      exact ⟨rfl, hrank ▸ Nat.one_lt_two⟩
    · contradiction
  case h_3 k hstep =>
    have hrank : s.rank = 1 := by simp [State.rank, Ctl.rank, hk, hstep]
    split at h
    · cases h
      unfold State.recoveryOpen
      split
      · exact ⟨enterDamaged_load _ _, hrank ▸ Nat.zero_lt_one⟩
      · exact ⟨rfl, hrank ▸ Nat.zero_lt_one⟩
    · contradiction
  all_goals contradiction

theorem commitStep_advances {c : CommitCtx} (hk : s.jc.state = .committing c) (h : s.commitStep c = some t) : s.Advances t := by
  unfold State.commitStep at h
  split at h
  case h_1 hstep =>
    have hrank : s.rank = 2 := by simp [State.rank, Ctl.rank, hk, hstep]
    split at h
    case isTrue hready =>
      cases h
      obtain ⟨e, he⟩ : ∃ e, s.jc.epoch = some e := by
        rw [Bool.and_eq_true] at hready
        exact Option.isSome_iff_exists.1 hready.2
      unfold State.beginCommitRecord
      rw [he]
      refine ⟨?_, ?_⟩
      · simp only
        split <;> rfl
      · rw [hrank]
        simp only
        split
        · exact Nat.zero_lt_two
        · simp only [State.rank, Ctl.rank]
          split <;> simp
    case isFalse => contradiction
  case h_2 i hstep =>
    split at h
    case isTrue hready =>
      cases h
      have hwork : s.jc.work = none := Option.isNone_iff_eq_none.1 (Bool.and_eq_true_iff.1 hready).2
      exact ⟨rfl, by simp [State.rank, Ctl.rank, hk, hstep, hwork, State.writeCommitRecord, State.startWork]⟩
    case isFalse => contradiction
  case h_3 hstep =>
    have hrank : s.rank = 1 := by simp [State.rank, Ctl.rank, hk, hstep]
    split at h
    · cases h
      unfold State.commitOpen
      split
      · exact ⟨by simp only [enterDamaged_load]; exact endLong_load s _, hrank ▸ Nat.zero_lt_one⟩
      · refine ⟨?_, hrank ▸ Nat.zero_lt_one⟩
        simp only
        split <;> rfl
    · contradiction
  case h_4 => contradiction

theorem rollbackAbandoned_advances (hrank : s.rank = 2) : s.Advances s.rollbackAbandoned :=
  ⟨(unmark_load _).trans (endLong_load s _), hrank ▸ Nat.zero_lt_two⟩

theorem rollbackDrained_advances {c : RollbackCtx} (hrank : s.rank = 2) (h : s.rollbackDrained c = some t) : s.Advances t := by
  unfold State.rollbackDrained at h
  split at h
  case h_1 =>
    cases h
    split
    · exact rollbackAbandoned_advances hrank
    · exact ⟨rfl, hrank ▸ Nat.zero_lt_two⟩
  case h_2 =>
    cases h
    exact rollbackAbandoned_advances hrank
  case h_3 => contradiction

theorem rollbackStep_advances {c : RollbackCtx} (hk : s.jc.state = .rollingBack c) (h : s.rollbackStep c = some t) :
    s.Advances t := by
  unfold State.rollbackStep at h
  split at h
  case h_1 hstep =>
    split at h
    · exact rollbackDrained_advances (by simp [State.rank, Ctl.rank, hk, hstep]) h
    · contradiction
  case h_3 w hstep =>
    have hrank : s.rank = 2 := by simp [State.rank, Ctl.rank, hk, hstep]
    split at h
    · cases h
      exact ⟨rfl, hrank ▸ Nat.one_lt_two⟩
    · contradiction
  case h_4 hstep =>
    have hrank : s.rank = 1 := by simp [State.rank, Ctl.rank, hk, hstep]
    split at h
    · cases h
      unfold State.rollbackOpen
      split
      · exact ⟨(enterDamaged_load _ _).trans (endLong_load s _), hrank ▸ Nat.zero_lt_one⟩
      · exact ⟨rfl, hrank ▸ Nat.zero_lt_one⟩
    · contradiction
  all_goals contradiction

theorem discardStep_advances {c : DiscardCtx} (hk : s.jc.state = .discarding c) (h : s.discardStep c = some t) :
    s.Advances t := by
  unfold State.discardStep at h
  split at h
  case isTrue hready =>
    cases h
    have hwork : s.jc.work = none := Option.isNone_iff_eq_none.1 (Bool.and_eq_true_iff.1 hready).2
    exact ⟨rfl, by simp [State.rank, Ctl.rank, hk, hwork, State.askDiscard, State.startUpdate]⟩
  case isFalse => contradiction

theorem formatBegin_advances {c : FormatCtx} (hrank : s.rank = 1) : s.Advances (s.formatBegin c) := by
  unfold State.formatBegin
  split
  · exact ⟨rfl, hrank ▸ Nat.zero_lt_one⟩
  · unfold State.invalidate
    split <;> exact ⟨rfl, hrank ▸ Nat.zero_lt_one⟩

theorem formatStep_advances {c : FormatCtx} (hk : s.jc.state = .formatting c) (h : s.formatStep c = some t) : s.Advances t := by
  unfold State.formatStep at h
  split at h
  case h_1 hstep =>
    split at h
    · contradiction
    · cases h
      exact formatBegin_advances (by simp [State.rank, Ctl.rank, hk, hstep])
  case h_6 hstep =>
    have hrank : s.rank = 2 := by simp [State.rank, Ctl.rank, hk, hstep]
    split at h
    · contradiction
    · cases h
      exact ⟨rfl, hrank ▸ Nat.one_lt_two⟩
  case h_7 hstep =>
    have hrank : s.rank = 1 := by simp [State.rank, Ctl.rank, hk, hstep]
    split at h
    · cases h
      exact ⟨endLong_load s _, hrank ▸ Nat.zero_lt_one⟩
    · contradiction
  all_goals contradiction

theorem clearingStep_advances {c : ClearCtx} (hk : s.jc.state = .clearing c) (h : s.clearingStep c = some t) :
    s.Advances t := by
  unfold State.clearingStep at h
  split at h
  case h_1 hstep =>
    have hrank : s.rank = 3 := by simp [State.rank, Ctl.rank, hk, hstep]
    split at h
    · contradiction
    · cases h
      exact ⟨rfl, hrank ▸ Nat.lt_succ_self 2⟩
  case h_2 hstep =>
    have hrank : s.rank = 2 := by simp [State.rank, Ctl.rank, hk, hstep]
    split at h
    · cases h
      unfold State.clearingOpen
      split
      · exact ⟨(enterDamaged_load _ _).trans (endLong_load s _), hrank ▸ Nat.zero_lt_two⟩
      · exact ⟨rfl, hrank ▸ Nat.one_lt_two⟩
    · contradiction
  case h_3 hstep =>
    have hrank : s.rank = 1 := by simp [State.rank, Ctl.rank, hk, hstep]
    split at h
    · contradiction
    · cases h
      exact ⟨rfl, hrank ▸ Nat.zero_lt_one⟩
  case h_4 => contradiction

theorem ctlStep_advances (h : s.ctlStep = some t) : s.Advances t := by
  unfold State.ctlStep at h
  split at h
  case h_1 hk =>
    split at h
    case isTrue hwork =>
      cases h
      rw [Option.isNone_iff_eq_none] at hwork
      exact ⟨rfl, by simp [State.rank, Ctl.rank, hk, hwork, State.beginAnchorRead, State.startWork]⟩
    case isFalse => contradiction
  case h_3 c hk => exact recoveryStep_advances hk h
  case h_6 c hk => exact commitStep_advances hk h
  case h_7 c hk => exact rollbackStep_advances hk h
  case h_8 c hk => exact discardStep_advances hk h
  case h_9 c hk => exact formatStep_advances hk h
  case h_10 c hk => exact clearingStep_advances hk h
  all_goals contradiction

theorem weight_lt_of_ctlStep (h : s.ctlStep = some t) : t.weight < s.weight :=
  weight_lt_of_rank (ctlStep_advances h).1 (ctlStep_advances h).2

end Controller

end Sys2Proof.Machine
end

section
/-! SUPPORT. The offers of the latches, the examination of the head and the acceptance of a request make the weight smaller: an event ends. -/

namespace Sys2Proof.Machine

/-! ### The offers of the latches -/

section Offers

variable {s t : State}

/-- A latch emptied outweighs the operation that it starts. -/
theorem weight_lt_of_latch (hqueue : t.load.1 = s.load.1) (hpresented : t.load.2.1 = s.load.2.1)
    (hlatch : t.load.2.2 + 1 = s.load.2.2) (hrank : t.rank ≤ 2 ∨ t.rank = s.rank) : t.weight < s.weight := by
  have hhead := headRank_le t
  simp only [State.weight, hqueue, hpresented, ← hlatch]
  omega

theorem weight_lt_of_offerCkpt (h : s.offerCkpt = some t) : t.weight < s.weight := by
  unfold State.offerCkpt at h
  split at h
  case isTrue hoffered =>
    cases h
    have hlatch : s.lines.ckptLatch = true := (Bool.and_eq_true_iff.1 hoffered).1
    refine weight_lt_of_latch ?_ rfl ?_ (.inl le_rfl)
    · simp [State.load, State.takeCommit, markAll]
    · simp [State.load, State.takeCommit, hlatch, Nat.add_comm]
  case isFalse => contradiction

theorem weight_lt_of_offerFallback (h : s.offerFallback = some t) : t.weight < s.weight := by
  unfold State.offerFallback at h
  simp only at h
  split at h
  case isTrue hlatch =>
    split at h
    · cases h
      refine weight_lt_of_latch ?_ rfl ?_ (.inl le_rfl)
      · simp [State.load, State.takeRollback, markAll]
      · simp [State.load, State.takeRollback, hlatch]
    · split at h
      · cases h
        exact weight_lt_of_latch rfl rfl (by simp [State.load, State.raise, hlatch]) (.inr rfl)
      · contradiction
  case isFalse => contradiction

end Offers

/-! ### The head examined -/

section Head

variable {s t : State} {e : Entry} {rest : List Entry}

theorem Ctl.rank_working (working : Bool) (k : Ctl) : k.rank true ≤ k.rank working := by
  cases working
  case true => exact le_rfl
  case false =>
    unfold Ctl.rank
    cases k
    case committing c => cases c with | mk _ _ _ step => cases step <;> simp
    all_goals simp

/-- What an examination of the head does to the weight: the head leaves the queue, or it can change less often. -/
structure HeadMoved (s t : State) : Prop where
  rank : t.rank ≤ s.rank
  kept : t.load.2 = s.load.2
  moved : t.load.1 + 1 = s.load.1 ∨ t.load.1 = s.load.1 ∧ t.headRank < s.headRank

theorem HeadMoved.weight_lt (h : HeadMoved s t) (hs : 1 ≤ s.headRank) : t.weight < s.weight := by
  have hrank := h.rank
  have hhead := headRank_le t
  obtain hmoved | ⟨hmoved, hless⟩ := h.moved
  all_goals
    simp only [State.weight, h.kept, ← hmoved]
    omega

theorem respond_headMoved (hqueue : s.front.queue = e :: rest) (st : Status) (data : List Byte) :
    HeadMoved s (s.respond st data) := by
  rw [respond_of_queue hqueue]
  exact ⟨le_rfl, rfl, .inl (by simp [State.load, hqueue])⟩

theorem raiseIf_headMoved (h : HeadMoved s t) (b : Bool) (e : Event) : HeadMoved s (t.raiseIf b e) := by
  unfold State.raiseIf
  split
  · exact ⟨h.rank, h.kept, h.moved⟩
  · exact h

/-- A head in progress changes no more. -/
theorem headMoved_of_idle (hs : 1 ≤ s.headRank) (hrank : t.rank ≤ s.rank) (hload : t.load = s.load) (hidle : t.headIdle = true) :
    HeadMoved s t :=
  ⟨hrank, congrArg Prod.snd hload, .inr ⟨congrArg Prod.fst hload, by rw [headRank_of_idle hidle]; exact hs⟩⟩

theorem perform_headMoved (hs : 1 ≤ s.headRank) (hqueue : s.front.queue = e :: rest) (counts : Bool) :
    HeadMoved s (s.perform counts) := by
  rw [perform_of_queue hqueue]
  exact headMoved_of_idle hs le_rfl rfl rfl

theorem headIdle_of_inProgress (h : s.inProgress = true) : s.headIdle = true := by
  rw [State.headIdle, h, Bool.true_or]

theorem claimSaveRead_headMoved (hs : 1 ≤ s.headRank) (g n : Nat) : HeadMoved s (s.claimSaveRead g n) :=
  headMoved_of_idle hs le_rfl rfl (headIdle_of_inProgress (by simp [State.claimSaveRead, State.claimFirst, State.inProgress]))

/-- R17: a head waits once for each reason. -/
theorem headIdle_beginWait {r : HoldReason} (hqueue : s.front.queue = e :: rest) (hhalt : s.lines.halt = false)
    (hsave : s.save = .idle) (haction : s.headAction e = .wait r) : (s.beginWait r).headIdle = true := by
  have hawaits : (s.beginWait r).awaits e = true := by
    unfold State.awaits
    rw [show (s.beginWait r).headAction e = .wait r from haction]
    simp [State.beginWait]
  unfold State.headIdle
  simp only [show (s.beginWait r).front.queue = e :: rest from hqueue, show (s.beginWait r).lines.halt = false from hhalt,
    show (s.beginWait r).save = .idle from hsave, hawaits]
  simp

/-- R65: a save in ROOM that waits. -/
theorem headIdle_of_room {g n : Nat} (hqueue : s.front.queue = e :: rest) (hhalt : s.lines.halt = false)
    (hsave : s.save = .room g n) (hroom : s.roomIdle = true) : s.headIdle = true := by
  simp [State.headIdle, hqueue, hhalt, hsave, hroom]

theorem askRoom_ctl (s : State) : s.askRoom.jc.state = s.jc.state ∧ s.askRoom.jc.work.isSome = true ∧
    s.askRoom.jc.room.isSome = true ∧ s.askRoom.lines = s.lines := by
  unfold State.askRoom
  split
  · refine ⟨dropOldest_state s, rfl, rfl, ?_⟩
    unfold State.reclaimStep State.startUpdate State.dropOldest
    cases s.jc.directory <;> rfl
  · exact ⟨rfl, rfl, rfl, rfl⟩

theorem askRoom_headMoved {g n : Nat} {u : State} (hs : 1 ≤ s.headRank) (hrank : u.rank = s.rank) (hload : u.load = s.load)
    (hqueue : u.front.queue = e :: rest) (hhalt : u.lines.halt = false) (hsave : u.save = .room g n)
    (hname : u.name = .opened ∨ u.name = .committing ∨ u.name = .rollingBack) : HeadMoved s u.askRoom := by
  obtain ⟨hfront, hkept, -, -⟩ := askRoom_leaves u
  obtain ⟨hstate, hwork, hroom, hlines⟩ := askRoom_ctl u
  refine headMoved_of_idle hs ?_ ?_ (headIdle_of_room (hfront ▸ hqueue) (hlines ▸ hhalt) (hkept.trans hsave) ?_)
  · rw [← hrank, State.rank, hstate, hwork]
    exact Ctl.rank_working _ _
  · rw [← hload, State.load, hfront, hlines]
    rfl
  · have hstays : u.askRoom.name = u.name := congrArg Ctl.name hstate
    rw [State.roomIdle, hroom, hstays]
    obtain h | h | h := hname <;> rw [h] <;> rfl

/-- R64, R65, R71: a write given to the save unit is claimed, or waits in ROOM with room asked for. -/
theorem beginSave_headMoved (hs : 1 ≤ s.headRank) (hqueue : s.front.queue = e :: rest) (hhalt : s.lines.halt = false)
    (haction : s.headAction e = .save) : HeadMoved s (s.beginSave e) := by
  by_cases hsaved : s.tags.store.read (tagEntry s.windows.committed e.req.granule) = s.openGeneration
  · rw [beginSave_of_saved hsaved]
    exact perform_headMoved hs hqueue true
  by_cases hfree : 2 ≤ s.free
  · rw [beginSave_of_free hsaved hfree]
    exact claimSaveRead_headMoved hs _ _
  by_cases hname : s.name = .discarding
  · rw [beginSave_of_discarding hsaved (Nat.not_le.1 hfree) hname]
    refine headMoved_of_idle hs le_rfl rfl (headIdle_of_room hqueue hhalt rfl ?_)
    rw [State.roomIdle, show (s.enterRoom _ _).name = .discarding from hname]
    rfl
  · rw [beginSave_asks hsaved (Nat.not_le.1 hfree) haction hname]
    refine askRoom_headMoved (u := s.enterRoom _ _) hs rfl rfl hqueue hhalt rfl ?_
    obtain hopened | hdiscarding | ⟨hmarked, -⟩ := headAction_save haction
    · exact .inl hopened
    · contradiction
    · exact .inr hmarked

theorem headStep_headMoved (h : s.headStep = some t) : HeadMoved s t := by
  have hs := headRank_pos h
  obtain ⟨hwaits, e, rest, hqueue, ⟨-, hact⟩ | ⟨hhalt, ⟨g, n, hsave, hroom⟩ | ⟨hsave, hact⟩⟩⟩ := headStep_cases h
  · cases hact
    exact raiseIf_headMoved (respond_headMoved hqueue _ _) _ _
  · have htwo : s.headRank = 2 := by
      have hbusy : s.headIdle = false := by rw [← headStep_isNone, h]; rfl
      simp [State.headRank, hbusy, hsave]
    obtain ⟨hname, ⟨-, rfl⟩ | rfl⟩ | rfl := roomStep_inv hroom
    · exact claimSaveRead_headMoved hs g n
    · exact askRoom_headMoved hs rfl rfl hqueue hhalt hsave hname
    · refine ⟨le_rfl, rfl, .inr ⟨rfl, ?_⟩⟩
      rw [htwo, State.headRank]
      split <;> simp
  · cases haction : s.headAction e with
    | answer st refusal =>
      rw [haction] at hact
      cases hact
      exact raiseIf_headMoved (respond_headMoved hqueue _ _) _ _
    | perform counts =>
      rw [haction] at hact
      cases hact
      exact perform_headMoved hs hqueue counts
    | wait r =>
      rw [haction] at hact
      obtain ⟨-, rfl⟩ : s.front.holdReason ≠ some r ∧ s.beginWait r = t := by simpa [State.act] using hact
      exact headMoved_of_idle hs le_rfl rfl (headIdle_beginWait hqueue hhalt hsave haction)
    | save =>
      rw [haction] at hact
      cases hact
      exact beginSave_headMoved hs hqueue hhalt haction

theorem weight_lt_of_headStep (h : s.headStep = some t) : t.weight < s.weight :=
  (headStep_headMoved h).weight_lt (headRank_pos h)

theorem weight_lt_of_acceptStep (h : s.acceptStep = some t) : t.weight < s.weight := by
  obtain ⟨r, rest, hpresented, -, ht⟩ := acceptStep_some h
  have hhead := headRank_le t
  have hrank : t.rank = s.rank := by rw [ht]; rfl
  have hqueue : t.load.1 = s.load.1 + 1 := by simp [ht, State.load]
  have hfewer : t.load.2.1 + 1 = s.load.2.1 := by simp [ht, State.load, hpresented]
  have hlatches : t.load.2.2 = s.load.2.2 := by rw [ht]; rfl
  simp only [State.weight, hrank, hqueue, ← hfewer, hlatches]
  omega

end Head

/-! ### Every step, and the end (log 26) -/

section Settling

variable {s t : State}

theorem weight_drawn (s : State) : s.drawn.weight = s.weight := rfl

theorem weight_lt_of_offerStep (h : s.offerStep = some t) : t.weight < s.weight := by
  obtain ⟨u, hu, hstep⟩ := eitherFirst_some h
  have hsame : u.weight = s.weight := by
    obtain rfl | rfl := hu
    · rfl
    · exact weight_drawn s
  rw [← hsame]
  obtain hstep | hstep := hstep
  · exact weight_lt_of_offerCkpt hstep
  · exact weight_lt_of_offerFallback hstep

theorem weight_lt_of_frontStep (h : s.frontStep = some t) : t.weight < s.weight := by
  obtain hstep | hstep := frontStep_some h
  · exact weight_lt_of_headStep hstep
  · exact weight_lt_of_acceptStep hstep

theorem weight_lt_of_internalStep (h : s.internalStep = some t) : t.weight < s.weight := by
  unfold State.internalStep at h
  split at h
  case h_1 u hctl =>
    cases h
    exact weight_lt_of_ctlStep hctl
  case h_2 =>
    obtain ⟨u, hu, hstep⟩ := eitherFirst_some h
    have hsame : u.weight = s.weight := by
      obtain rfl | rfl := hu
      · rfl
      · exact weight_drawn s
    rw [← hsame]
    obtain hstep | hstep := hstep
    · exact weight_lt_of_offerStep hstep
    · exact weight_lt_of_frontStep hstep

theorem settleWith_ends (n : Nat) : ∀ s : State, s.weight ≤ n → (State.settleWith n s).internalStep = none := by
  induction n with
  | zero =>
    intro s hweight
    cases hstep : s.internalStep with
    | none => exact hstep
    | some t => exact absurd (weight_lt_of_internalStep hstep) (by omega)
  | succ n ih =>
    intro s hweight
    unfold State.settleWith
    cases hstep : s.internalStep with
    | none => exact hstep
    | some t => exact ih t (by have hless := weight_lt_of_internalStep hstep; omega)

/-- Settles O3, by the weight that every step makes smaller and that the fuel of an event bounds. -/
theorem eventsRunToTheirEnd : Obligations.EventsRunToTheirEnd := by
  unfold Obligations.EventsRunToTheirEnd
  exact fun s => settleWith_ends s.fuel s (weight_le_fuel s)

end Settling

end Sys2Proof.Machine
end

section
/-! SUPPORT. What a command keeps: the laws of StepKeepsTheLaws, the port's discipline, and the part settled (R3, R13, R117, R155 to
R158, R170); and memory's answers, on the request path and on the controller's side. -/

namespace Sys2Proof.Machine

/-! ### The part settled -/

section Settled

variable {s t : State}

/-- R156, R169: when the controller has no claim to raise. -/
def State.claimIdle (s : State) : Bool :=
  s.lines.halt || s.port.ctlOutstanding || match s.jc.work with
    | none => true
    | some w => w.todo.isEmpty

theorem raiseCtlClaim_of_claimIdle (h : s.claimIdle = true) : s.raiseCtlClaim = s := by
  unfold State.raiseCtlClaim
  split
  · rfl
  case isFalse hfree =>
    rw [State.claimIdle, Bool.eq_false_iff.2 hfree] at h
    split
    · rfl
    case h_2 w hwork =>
      have htodo : w.todo = [] := by simpa [hwork] using h
      rw [htodo]

theorem raiseCtlClaim_claimIdle (s : State) : s.raiseCtlClaim.claimIdle = true := by
  unfold State.raiseCtlClaim
  split
  case isTrue hstays => rw [State.claimIdle, hstays, Bool.true_or]
  case isFalse =>
    split
    case h_1 hwork => simp [State.claimIdle, hwork]
    case h_2 w hwork =>
      split
      case h_1 htodo => simp [State.claimIdle, hwork, htodo]
      case h_2 => simp [State.claimIdle, Port.ctlOutstanding]

theorem raiseCtlClaim_eq_self_iff : s.raiseCtlClaim = s ↔ s.claimIdle = true :=
  ⟨fun h => h ▸ raiseCtlClaim_claimIdle s, raiseCtlClaim_of_claimIdle⟩

theorem settled_iff : s.settled = true ↔ s.stepIdle = true ∧ s.claimIdle = true ∧ s.port.busyWhileClaimed = true := by
  rw [State.settled, internalStep_isNone, Bool.and_eq_true, Bool.and_eq_true, decide_eq_true_eq, raiseCtlClaim_eq_self_iff, and_assoc]

theorem settled_of_same (hstep : t.stepIdle = s.stepIdle) (hclaim : t.claimIdle = s.claimIdle) (hport : t.port = s.port)
    (h : s.settled = true) : t.settled = true := by
  obtain ⟨hs, hc, hp⟩ := settled_iff.1 h
  exact settled_iff.2 ⟨hstep.trans hs, hclaim.trans hc, by rw [hport]; exact hp⟩

theorem raiseCtlClaim_stepIdle (s : State) : s.raiseCtlClaim.stepIdle = s.stepIdle := by
  obtain heq | ⟨-, t, heq⟩ := raiseCtlClaim_same_or_claims s
  · rw [heq]
  · rw [heq]
    rfl

theorem arbitrate_stepIdle (s : State) (w : Bool) : (s.arbitrate w).stepIdle = s.stepIdle := by
  obtain ⟨heq, -⟩ | ⟨-, n, ⟨r, -, heq⟩ | ⟨r, -, heq⟩⟩ := arbitrate_same_or_grants s w <;> rw [heq] <;> rfl

/-- R156, R158: a claim granted is still outstanding. -/
theorem arbitrate_claimIdle (h : s.claimIdle = true) (w : Bool) : (s.arbitrate w).claimIdle = true := by
  obtain ⟨heq, -⟩ | ⟨hfree, n, ⟨r, hr, heq⟩ | ⟨r, hr, heq⟩⟩ := arbitrate_same_or_grants s w
  · rw [heq]
    exact h
  · have hout : (s.port.grant .request).ctlOutstanding = s.port.ctlOutstanding := by
      simp [grant_request hr, Port.ctlOutstanding, hfree]
    rw [heq, State.claimIdle, hout]
    exact h
  · have hout : (s.port.grant .controller).ctlOutstanding = true := by simp [grant_controller hr, Port.ctlOutstanding]
    rw [heq, State.claimIdle, hout, Bool.or_true, Bool.true_or]

/-- R3, R13, R158: at an event's end nothing is left to do. -/
theorem finish_settled (s : State) (w : Bool) : (s.finish w).settled = true := by
  refine settled_iff.2 ⟨?_, arbitrate_claimIdle (raiseCtlClaim_claimIdle _) w, arbitrate_busyWhileClaimed _ w⟩
  calc (s.finish w).stepIdle = s.settle.raiseCtlClaim.stepIdle := arbitrate_stepIdle _ w
    _ = s.settle.stepIdle := raiseCtlClaim_stepIdle _
    _ = true := (internalStep_eq_none_iff _).1 (eventsRunToTheirEnd s)

end Settled

/-! ### What a command keeps -/

/-- What a command keeps: the laws, the port's discipline, and the part settled or in reset. -/
structure StepKept (s t : State) : Prop extends LawsKept s t where
  port : s.portDisciplined = true → t.portDisciplined = true
  rest : s.inReset = true ∨ s.settled = true → t.inReset = true ∨ t.settled = true

section Kept

variable {r s t : State}

theorem StepKept.refl (s : State) : StepKept s s := { LawsKept.refl s with port := id, rest := id }

theorem Effect.finish (h : Effect s t) (w : Bool) : StepKept s (t.finish w) :=
  { h.toLawsKept.trans ((finish_follows t w).laws h.live) with
    port := fun hs => finish_portDisciplined (h.path ((portDisciplined_iff s).1 hs).1) w
    rest := fun _ => .inr (finish_settled t w) }

/-- Log 10: an event whose first effect keeps the laws keeps them; in reset it does nothing. -/
theorem stepKept_event {f : State → State} (hf : s.inReset = false → Effect s (f s)) : StepKept s (s.event f) := by
  cases hreset : s.inReset
  case true =>
    have hsame : s.event f = s := by simp [State.event, State.live, hreset]
    rw [hsame]
    exact .refl s
  case false =>
    rw [event_of_live hreset]
    exact (hf hreset).finish _

end Kept

/-! ### Memory's answers (R66 to R70, R155, R157, R160) -/

section Memory

variable {s : State}

theorem countWrite_keeps (s : State) : Keeps s s.countWrite := by
  refine keeps_of_view ?_
  cases he : s.jc.epoch <;> simp [State.countWrite, State.view, State.fixed, State.name, he, OpenEpoch.countWrite]

theorem ownOkay_liveKept (hreset : s.inReset = false) (counts : Bool) (data : List Byte) : LiveKept s (s.ownOkay counts data) := by
  unfold State.ownOkay
  split
  · exact ((countWrite_keeps s).toFollows.trans (respond_follows _ _ _)).liveKept hreset
  · exact (respond_follows _ _ _).liveKept hreset

/-- R17, R67: a save goes on to a record's write; its head was in progress before. -/
theorem recordClaim_liveKept (hreset : s.inReset = false) {g n : Nat} {p b : List Byte} {w : Request} {left : List Request}
    (h : s.inProgress = true) :
    LiveKept s { s with save := .record g n p b left, port.reqClaim := some w } :=
  { LawsKept.refl s with
    hold := fun hs => (holdPlaced_iff _).2 fun hne => by
      obtain ⟨-, hwaits⟩ := (holdPlaced_iff s).1 hs hne
      rw [h] at hwaits
      contradiction
    live := hreset }

/-- R67: the record is in the ring, and its granule's tag is set. -/
theorem recordSaved_liveKept (hreset : s.inReset = false) (n : Nat) : LiveKept s (s.recordSaved n) :=
  { LawsKept.refl s with
    tags := wf_set _ _ _
    generation := fun hs => by
      rw [generationExact_iff] at hs ⊢
      intro p hp
      refine hs p ?_
      rw [← hp]
      cases he : s.jc.epoch <;> simp [State.recordSaved, he]
    live := hreset }

theorem requestResponse_liveKept (hreset : s.inReset = false) (a : MemAnswer) : LiveKept s (s.requestResponse a) := by
  unfold State.requestResponse
  split
  case h_1 =>
    split
    · exact (respond_follows _ _ _).liveKept hreset
    · exact .refl hreset
  case h_2 data =>
    split
    case h_1 g n hsave =>
      obtain ⟨w, left, hwrites, -⟩ := recordWrites_cons s.base s.jc.head ((s.saveRecord g (data.take 32)).encode s.jc.head)
      simp only [State.saveReadOkay, hwrites]
      exact recordClaim_liveKept hreset (by simp [State.inProgress, hsave])
    case h_2 g n p b left hsave =>
      split
      · exact (recordSaved_liveKept hreset n).trans ((perform_follows (s.recordSaved n) true).liveKept hreset)
      · exact recordClaim_liveKept hreset (by simp [State.inProgress, hsave])
    all_goals
      split
      · exact ownOkay_liveKept hreset _ _
      · exact .refl hreset

/-- R3: memory has answered the transaction of a head in progress, whose entry still stands in the queue. -/
structure State.Answered (s : State) : Prop where
  free : s.port.inFlight = none
  unclaimed : s.port.reqClaim = none
  headed : s.front.queue ≠ []
  saving : s.save ≠ .idle → s.front.phase = .waiting
  busy : s.inProgress = true

namespace State.Answered

variable (h : s.Answered)
include h

theorem single : s.port.single = true := by simp [Port.single, h.free]

theorem unclaims : s.port.reqOutstanding = false := by simp [Port.reqOutstanding, h.free, h.unclaimed]

theorem respond_path (st : Status) (data : List Byte) : (s.respond st data).PathLaw := by
  obtain ⟨e, rest, hqueue⟩ := List.exists_cons_of_ne_nil h.headed
  exact Machine.respond_path hqueue h.single h.unclaims st data

theorem recordClaim_path (hsave : s.save ≠ .idle) {g n : Nat} {p b : List Byte} {w : Request} {left : List Request} :
    State.PathLaw { s with save := .record g n p b left, port.reqClaim := some w } := by
  have hbusy : State.inProgress { s with save := .record g n p b left, port.reqClaim := some w } = true := by
    simp [State.inProgress]
  exact ⟨by simp [Port.single, h.free], by rw [hbusy]; simp [Port.reqOutstanding], fun _ => h.headed, fun _ =>
    ⟨h.saving hsave, h.headed⟩⟩

theorem ownOkay_path (counts : Bool) (data : List Byte) : (s.ownOkay counts data).PathLaw := by
  unfold State.ownOkay
  split
  · exact respond_path (s := s.countWrite) ⟨h.free, h.unclaimed, h.headed, h.saving, h.busy⟩ _ _
  · exact h.respond_path _ _

/-- R66 to R70: what memory's answer leads to keeps the discipline: the next claim is raised, or the head leaves. -/
theorem requestResponse_path (a : MemAnswer) : (s.requestResponse a).PathLaw := by
  unfold State.requestResponse
  split
  case h_1 =>
    rw [if_pos h.busy]
    exact h.respond_path _ _
  case h_2 data =>
    split
    case h_1 g n hsave =>
      obtain ⟨w, left, hwrites, -⟩ := recordWrites_cons s.base s.jc.head ((s.saveRecord g (data.take 32)).encode s.jc.head)
      simp only [State.saveReadOkay, hwrites]
      exact h.recordClaim_path (by simp [hsave])
    case h_2 g n p b left hsave =>
      split
      · obtain ⟨e, rest, hqueue⟩ := List.exists_cons_of_ne_nil h.headed
        exact perform_path (s := s.recordSaved n) hqueue h.single h.unclaims true
      · exact h.recordClaim_path (by simp [hsave])
    case h_3 hsave =>
      split
      · exact h.ownOkay_path _ _
      case h_2 hphase => exact absurd h.busy (by simp [State.inProgress, hsave, hphase])
    case h_4 g n hsave =>
      exact absurd h.busy (by simp [State.inProgress, hsave, h.saving (by simp [hsave])])

end State.Answered

theorem answered_of_inFlight {r : Request} (h : s.PathLaw) (hflight : s.port.inFlight = some (.request, r)) (a : MemAnswer) :
    (s.portFreed a).Answered := by
  have hbusy : s.inProgress = true := by rw [← h.outstanding]; simp [Port.reqOutstanding, hflight]
  have hclaim : s.port.reqClaim = none := by simpa [Port.single, hflight] using h.single
  have hsaving : s.save ≠ .idle → s.front.phase = .waiting := fun hne => (h.saving hne).1
  unfold State.portFreed State.raiseIf
  split <;> exact ⟨rfl, hclaim, h.headed hbusy, hsaving, hbusy⟩

theorem portFreed_follows (s : State) (a : MemAnswer) : Follows s (s.portFreed a) :=
  (withPort_follows s { s.port with inFlight := none } s.freeIndex).trans (raiseIf_keeps _ _ _).toFollows

/-- R155: a response to the controller leaves the request path where it stands. -/
theorem portFreed_path {r : Request} (h : s.PathLaw) (hflight : s.port.inFlight = some (.controller, r)) (a : MemAnswer) :
    (s.portFreed a).PathLaw := by
  have hout : s.port.reqOutstanding = s.inProgress := h.outstanding
  refine (raiseIf_keeps { s with port.inFlight := none } _ _).path ⟨rfl, Eq.trans ?_ hout, h.headed, h.saving⟩
  simp [Port.reqOutstanding, hflight]

theorem memoryResponded_effect (hreset : s.inReset = false) (a : MemAnswer) : Effect s (s.memoryResponded a) := by
  cases hflight : s.port.inFlight with
  | none =>
    rw [memoryResponded_of_idle a hflight]
    exact .refl hreset
  | some f =>
    have hfreed := portFreed_follows s a
    have hlive := hfreed.inReset.trans hreset
    obtain ⟨c | c, r⟩ := f
    · rw [memoryResponded_of_request a hflight]
      exact {
        (hfreed.liveKept hreset).trans (requestResponse_liveKept hlive a) with
        path := fun h => (answered_of_inFlight h hflight a).requestResponse_path a }
    · rw [memoryResponded_of_controller a hflight]
      have hresponds := controllerResponse_keeps (s.portFreed a) a
      exact {
        (hfreed.trans hresponds.toFollows).liveKept hreset with
        path := fun h => hresponds.path (portFreed_path h hflight a) }

end Memory

end Sys2Proof.Machine
end

section
/-! SUPPORT. What the events of time, the lines, halt, power and the front port keep, and the link commands that report and configure. -/

namespace Sys2Proof.Machine

/-! ### The events of time, the lines, halt and the front port -/

section Events

variable {s : State}

theorem holdExpired_keeps (s : State) : Keeps s s.holdExpired := by
  unfold State.holdExpired
  split
  case isTrue hruns =>
    obtain ⟨-, hwaits, hne⟩ : s.front.holdTimer.isSome = true ∧ s.inProgress = false ∧ s.front.queue ≠ [] := by
      simpa [State.holdRunning, and_assoc] using hruns
    obtain ⟨e, rest, hqueue⟩ := List.exists_cons_of_ne_nil hne
    exact (respond_keeps hqueue hwaits _ _).trans (raise_keeps _ _)
  case isFalse => exact .refl s

/-- R79, R80: the timer that expires ran in OPEN or UNGUARDED. -/
theorem autoExpired_keeps (s : State) : Keeps s s.autoExpired := by
  unfold State.autoExpired
  split
  case h_3 ms hruns =>
    split
    · refine keeps_of_timer rfl fun hreset hs => ?_
      obtain hidle | ⟨-, ⟨hname, -⟩ | ⟨-, ms', hpaused⟩⟩ := (timerPlaced_iff s).1 hs
      · rw [hruns] at hidle
        contradiction
      · exact timerPlaced_of_started (s := s.startTimer) hreset hname rfl
      · rw [hruns] at hpaused
        contradiction
    · split
      · exact takeCommit_keeps s false
      · exact keeps_of_timer rfl fun _ _ => timerPlaced_of_idle rfl
  all_goals exact .refl s

theorem retireEnded_effect (hreset : s.inReset = false) : Effect s s.retireEnded := by
  unfold State.retireEnded
  split
  case h_1 =>
    exact {
      LawsKept.refl s with
      tags := wf_retire _ _
      live := hreset
      path := fun h => ⟨h.single, h.outstanding, h.headed, h.saving⟩ }
  all_goals exact .refl hreset

theorem clearEnded_effect (hreset : s.inReset = false) : Effect s s.clearEnded := by
  unfold State.clearEnded
  split
  case h_1 =>
    exact {
      LawsKept.refl s with
      tags := fun _ => wf_cleared
      live := hreset
      path := fun h => ⟨h.single, h.outstanding, h.headed, h.saving⟩ }
  all_goals exact .refl hreset

/-- R79, R168: a timer that runs is paused when the halt begins. -/
theorem beginHalt_effect (hreset : s.inReset = false) : Effect s s.beginHalt :=
  { LawsKept.refl s with
    timer := fun hs => by
      rw [timerPlaced_iff] at hs ⊢
      obtain hidle | ⟨-, ⟨hname, ⟨-, ms, htimer⟩ | ⟨-, ms, htimer⟩⟩ | ⟨hname, ms, htimer⟩⟩ := hs
      · exact .inl (by simp [State.beginHalt, hidle, AutoTimer.pause])
      · exact .inr ⟨hreset, .inl ⟨hname, .inr ⟨rfl, ms, by simp [State.beginHalt, htimer, AutoTimer.pause]⟩⟩⟩
      · exact .inr ⟨hreset, .inl ⟨hname, .inr ⟨rfl, ms, by simp [State.beginHalt, htimer, AutoTimer.pause]⟩⟩⟩
      · exact .inr ⟨hreset, .inr ⟨hname, ms, by simp [State.beginHalt, htimer, AutoTimer.pause]⟩⟩
    quiet := fun _ => quietReset_of_live hreset
    live := hreset
    path := fun h => ⟨h.single, h.outstanding, h.headed, h.saving⟩ }

/-- R79, R170: a timer paused in OPEN or UNGUARDED runs again when the halt ends; one paused by a DISCARD stays paused. -/
theorem endHalt_effect (hreset : s.inReset = false) : Effect s s.endHalt :=
  { LawsKept.refl s with
    timer := fun hs => by
      rw [timerPlaced_iff] at hs ⊢
      obtain hidle | ⟨-, ⟨hname, htimer⟩ | ⟨hname, ms, htimer⟩⟩ := hs
      · exact .inl (by simp [State.endHalt, hidle, AutoTimer.resume])
      · have hruns : ∃ ms, s.endHalt.jc.timer = .running ms := by
          have hrest : (s.name == .opened || s.name == .unguarded) = true := by simpa using hname
          obtain ⟨-, ms, htimer⟩ | ⟨-, ms, htimer⟩ := htimer
          all_goals exact ⟨ms, by simp [State.endHalt, hrest, htimer, AutoTimer.resume]⟩
        exact .inr ⟨hreset, .inl ⟨hname, .inl ⟨rfl, hruns⟩⟩⟩
      · exact .inr ⟨hreset, .inr ⟨hname, ms, by simp [State.endHalt, hname, htimer]⟩⟩
    quiet := fun _ => quietReset_of_live hreset
    live := hreset
    path := fun h => ⟨h.single, h.outstanding, h.headed, h.saving⟩ }

theorem ckptRequest_keeps (s : State) : Keeps s s.ckptRequest := by
  unfold State.ckptRequest
  split
  · exact takeCommit_keeps s false
  · split
    · exact raise_keeps s _
    · exact keeps_of_view rfl

theorem fallbackRequest_keeps (s : State) : Keeps s s.fallbackRequest := by
  unfold State.fallbackRequest
  split
  · exact takeRollback_keeps s _ _
  · split
    · exact raise_keeps s _
    · exact keeps_of_view rfl

/-- R162, R163: a run count stays at most 15: one more would reach the qualify count and 1. -/
theorem sample_bounded {q : Qualifier} (h : q.bounded = true) (count : BitVec 4) (level : Bool) :
    (q.sample count level).bounded = true := by
  have hcount := count.isLt
  rw [Qualifier.bounded, decide_eq_true_eq] at h ⊢
  unfold Qualifier.sample
  split
  · simp
  · split
    · simp
    · simp only
      omega

theorem sampled_effect (hreset : s.inReset = false) (ckpt fallback : Bool) : Effect s (s.sampled ckpt fallback) :=
  { LawsKept.refl s with
    qualifiers := fun hs => by
      obtain ⟨hckpt, hfallback⟩ := Bool.and_eq_true_iff.1 hs
      exact Bool.and_eq_true_iff.2 ⟨sample_bounded hckpt _ _, sample_bounded hfallback _ _⟩
    live := hreset
    path := fun h => ⟨h.single, h.outstanding, h.headed, h.saving⟩ }

theorem sampleLines_effect (hreset : s.inReset = false) (ckpt fallback : Bool) : Effect s (s.sampleLines ckpt fallback) := by
  have hsampled := sampled_effect hreset ckpt fallback
  refine hsampled.trans (Keeps.effect ?_ hreset)
  unfold State.sampleLines
  simp only
  split
  · exact .refl _
  · exact ckptRequest_keeps _
  · exact fallbackRequest_keeps _
  · split
    · exact ((drawn_keeps _).trans (ckptRequest_keeps _)).trans (fallbackRequest_keeps _)
    · exact ((drawn_keeps _).trans (fallbackRequest_keeps _)).trans (ckptRequest_keeps _)

theorem qualify_effect (hreset : s.inReset = false) (l : LineRun) : Effect s (s.qualify l) := by
  unfold State.qualify
  simp only
  split
  all_goals
    split
    · exact sampleLines_effect hreset _ _
    · exact .refl hreset

end Events

/-! ### Power and the pins -/

section Pins

variable {s u : State}

/-- An event with no effect of its own, from a state that keeps the laws. -/
theorem stepKept_event_id (hlaws : LawsKept s u) (hport : s.portDisciplined = true → u.portDisciplined = true) :
    StepKept s (u.event id) := by
  cases hreset : u.inReset
  case true =>
    have hsame : u.event id = u := by simp [State.event, State.live, hreset]
    rw [hsame]
    exact { hlaws with port := hport, rest := fun _ => .inl hreset }
  case false =>
    rw [event_of_live hreset]
    exact {
      hlaws.trans ((finish_follows u _).laws hreset) with
      port := fun hs => finish_portDisciplined ((portDisciplined_iff u).1 (hport hs)).1 _
      rest := fun _ => .inr (finish_settled u _) }

/-- R29, R43: the state after a reset obeys every law. -/
theorem afterReset_laws (s : State) (straps : Straps) (held pfw cs : Bool) (raised : BitVec 12) :
    LawsKept s ((s.afterReset straps held pfw cs).raiseAll raised) where
  flag _ := rfl
  queue _ := rfl
  directory _ := rfl
  tags _ := rfl
  qualifiers _ := rfl
  timer _ := rfl
  hold _ := rfl
  generation _ := rfl
  report _ := rfl
  frame _ := by simp [State.frameIdle, State.afterReset, State.raiseAll, State.reset]
  quiet _ := by
    cases held <;> simp [State.quietReset, State.afterReset, State.raiseAll, State.reset, State.name, State.ready,
      State.evtAsserted, Ctl.name]

theorem afterReset_portDisciplined (s : State) (straps : Straps) (held pfw cs : Bool) (raised : BitVec 12) :
    ((s.afterReset straps held pfw cs).raiseAll raised).portDisciplined = true := rfl

theorem withdraw_laws (s : State) : LawsKept s { s with inReset := false } :=
  { LawsKept.refl s with
    timer := fun hs => by
      rw [timerPlaced_iff] at hs ⊢
      exact hs.imp id fun ⟨_, hplaced⟩ => ⟨rfl, hplaced⟩
    frame := fun hs => by
      rw [State.frameIdle, Bool.or_eq_true, Bool.and_eq_true] at hs ⊢
      exact hs.imp (fun ⟨hlow, _⟩ => ⟨hlow, rfl⟩) id
    quiet := fun _ => rfl }

/-- R29, R171, R174: in reset READY and EVT_N follow from the state ANCHOR_READ and from the reset. -/
theorem quietReset_iff_of_reset (hreset : s.inReset = true) : s.quietReset = true ↔ s.stamp = 0 ∧ s.name = .anchorRead := by
  have hevt : s.evtAsserted = false := by simp [State.evtAsserted, hreset]
  have hready : s.name = .anchorRead → s.ready = false := fun h => by simp [State.ready, h]
  simp only [State.quietReset, hreset, hevt, Bool.not_true, Bool.false_or, Bool.not_false, Bool.and_true, Bool.and_eq_true,
    beq_iff_eq, Bool.not_eq_true', and_iff_left_iff_imp]
  exact fun h => hready h.2

/-- R167, log 10: in reset a halt is only a level, and the part stays quiet. -/
theorem haltLevel_kept (hreset : s.inReset = true) (level : Bool) : StepKept s { s with lines.halt := level } :=
  { LawsKept.refl s with
    timer := fun hs => by
      obtain hidle | ⟨hlive, -⟩ := (timerPlaced_iff s).1 hs
      · exact timerPlaced_of_idle hidle
      · rw [hreset] at hlive
        contradiction
    quiet := fun hs =>
      (quietReset_iff_of_reset (s := { s with lines.halt := level }) hreset).2 ((quietReset_iff_of_reset hreset).1 hs)
    port := id
    rest := fun _ => .inl hreset }

theorem haltBegin_kept {t : State} (h : execHaltBegin s = .next t) : StepKept s t := by
  unfold execHaltBegin at h
  split at h
  case isTrue hreset =>
    cases h
    exact haltLevel_kept hreset true
  case isFalse =>
    cases h
    exact stepKept_event beginHalt_effect

theorem haltEnd_kept {t : State} (h : execHaltEnd s = .next t) : StepKept s t := by
  unfold execHaltEnd at h
  split at h
  case isTrue hreset =>
    cases h
    exact haltLevel_kept hreset false
  case isFalse =>
    cases h
    exact stepKept_event endHalt_effect

end Pins

/-! ### The link commands -/

section Link

variable {r s t : State}

theorem StepKept.trans (h : StepKept r s) (k : StepKept s t) : StepKept r t :=
  { h.toLawsKept.trans k.toLawsKept with port := k.port ∘ h.port, rest := k.rest ∘ h.rest }

/-- R178: the frame's own values are nothing that a law but the decoder's looks at. -/
theorem answer_kept (hreset : s.inReset = false) (x : Result) (bytes : List Byte) : StepKept s (s.answer x bytes) :=
  { LawsKept.refl s with
    frame := fun _ => by simp [State.frameIdle, State.answer, hreset]
    port := id
    rest := Or.imp id (settled_of_same rfl rfl rfl) }

theorem StepKept.answer (h : StepKept r s) (hreset : s.inReset = false) (x : Result) (bytes : List Byte) :
    StepKept r (s.answer x bytes) := h.trans (answer_kept hreset x bytes)

theorem refuse_kept (hreset : s.inReset = false) (x : Result) (n : Nat) : StepKept s (s.refuse x n) := answer_kept hreset x _

theorem linkCommand_kept {f : State → State} (hf : s.inReset = false → StepKept s (f s)) : StepKept s (s.linkCommand f) := by
  cases hready : s.linkReady
  case true =>
    rw [linkCommand_of_ready hready]
    exact hf (inReset_of_linkReady hready)
  case false =>
    rw [linkCommand_of_not_ready hready]
    exact .refl s

/-- R21, R22: a table staged leaves the flag exact, and nothing to do that was not to be done before. -/
theorem stage_kept (s : State) (table : WindowTable) : StepKept s { s with windows := s.windows.stage table } :=
  { LawsKept.refl s with
    flag := fun _ => workOut_exact _
    port := id
    rest := Or.imp id (settled_of_same rfl rfl rfl) }

variable (hreset : s.inReset = false)
include hreset

theorem runReadEvents_kept : StepKept s s.runReadEvents := by
  have hcaptured : StepKept s { s with events.capture := some s.events.flags, events.raisedSince := 0 } :=
    { LawsKept.refl s with port := id, rest := Or.imp id (settled_of_same rfl rfl rfl) }
  exact hcaptured.answer hreset _ _

theorem runGetOpenEpoch_kept : StepKept s s.runGetOpenEpoch := by
  unfold State.runGetOpenEpoch
  split
  case h_1 | h_2 | h_3 => exact refuse_kept hreset _ _
  all_goals exact answer_kept hreset _ _

theorem runGetDirectoryEntry_kept (k : Byte) : StepKept s (s.runGetDirectoryEntry k) := by
  unfold State.runGetDirectoryEntry
  split_ifs
  · exact refuse_kept hreset _ _
  · exact refuse_kept hreset _ _
  · exact refuse_kept hreset _ _
  · split
    · exact refuse_kept hreset _ _
    · exact answer_kept hreset _ _

theorem runGetWindow_kept (table slot : Byte) : StepKept s (s.runGetWindow table slot) := by
  unfold State.runGetWindow
  split
  · exact refuse_kept hreset _ _
  · split
    · exact refuse_kept hreset _ _
    · exact answer_kept hreset _ _

theorem runSetEventMask_kept (v : Half) : StepKept s (s.runSetEventMask v) := by
  unfold State.runSetEventMask
  split
  · exact refuse_kept hreset _ _
  · have hset : StepKept s { s with events.mask := v.setWidth 12 } :=
      { LawsKept.refl s with
        quiet := fun _ => quietReset_of_live hreset
        port := id
        rest := Or.imp id (settled_of_same rfl rfl rfl) }
    exact hset.answer hreset _ _

theorem runSetPolicy_kept (selector : Byte) (v : Half) : StepKept s (s.runSetPolicy selector v) := by
  unfold State.runSetPolicy
  split
  · exact refuse_kept hreset _ _
  case h_2 p _ =>
    have hset : StepKept s { s with link.policies := p } :=
      { LawsKept.refl s with port := id, rest := Or.imp id (settled_of_same rfl rfl rfl) }
    exact hset.answer hreset _ _

theorem runStageWindow_kept (slot : Byte) (base length : Word) (mode : Byte) :
    StepKept s (s.runStageWindow slot base length mode) := by
  unfold State.runStageWindow
  split
  · exact refuse_kept hreset _ _
  · split
    · exact refuse_kept hreset _ _
    · exact (stage_kept s _).answer hreset _ _

theorem runClearWindow_kept (slot : Byte) : StepKept s (s.runClearWindow slot) := by
  unfold State.runClearWindow
  split_ifs
  · exact refuse_kept hreset _ _
  · exact refuse_kept hreset _ _
  · exact (stage_kept s _).answer hreset _ _

theorem runSetStamp_kept (v : Word) : StepKept s (s.runSetStamp v) := by
  have hset : StepKept s { s with stamp := v } :=
    { LawsKept.refl s with
      quiet := fun _ => quietReset_of_live hreset
      port := id
      rest := Or.imp id (settled_of_same rfl rfl rfl) }
  exact hset.answer hreset _ _

end Link

end Sys2Proof.Machine
end

section
/-! SUPPORT. The commands of the long operations, frames, and every command and step. -/

namespace Sys2Proof.Machine

section LongOperations

variable {s : State}

theorem runLinkReset_kept (hreset : s.inReset = false) : StepKept s s.runLinkReset := by
  rw [runLinkReset_eq]
  refine StepKept.answer ?_ (by exact hreset) _ _
  exact {
    LawsKept.refl s with
    flag := fun _ => by simp [State.flagExact, differ]
    quiet := fun _ => quietReset_of_live hreset
    port := id
    rest := fun h => h.imp id fun hs => by
      obtain ⟨hstep, hclaim, hport⟩ := settled_iff.1 hs
      obtain ⟨hctl, -, hhead, haccept⟩ := (stepIdle_iff s).1 hstep
      exact settled_iff.2 ⟨(stepIdle_iff _).2 ⟨hctl, rfl, hhead, haccept⟩, hclaim, hport⟩ }

theorem accept_effect (hreset : s.inReset = false) (op : LongOp) : Effect s (s.accept op) :=
  { LawsKept.refl s with
    frame := fun _ => by simp [State.frameIdle, State.accept, State.answer, hreset]
    live := hreset
    path := fun h => ⟨h.single, h.outstanding, h.headed, h.saving⟩ }

/-- A command of a long operation answers only, or what it takes keeps the laws and the event runs to its end. -/
theorem longCommand_kept (hreset : s.inReset = false) {r : Result} (op : LongOp) {take : State → State}
    (htake : r = .accepted → Keeps (s.accept op) (take (s.accept op))) : StepKept s (s.longCommand r op take) := by
  unfold State.longCommand
  split
  case isTrue haccepted => exact ((accept_effect hreset op).trans ((htake haccepted).effect hreset)).finish _
  case isFalse => exact answer_kept hreset _ _

/-- R79, R107: a discard pauses a timer that runs. -/
theorem takeDiscard_keeps (s : State) (e : Word) : Keeps s (s.takeDiscard e) := by
  have htaken : Keeps s { s with jc.state := .discarding (s.discardContext e), jc.timer := s.jc.timer.pause } := by
    refine keeps_of_timer rfl fun hreset hs => ?_
    rw [timerPlaced_iff] at hs ⊢
    obtain hidle | ⟨-, ⟨-, ⟨-, ms, htimer⟩ | ⟨-, ms, htimer⟩⟩ | ⟨-, ms, htimer⟩⟩ := hs
    · exact .inl (by simp [hidle, AutoTimer.pause])
    all_goals exact .inr ⟨hreset, .inr ⟨rfl, ms, by simp [htimer, AutoTimer.pause]⟩⟩
  unfold State.takeDiscard
  simp only
  split
  · exact htaken.trans (startUpdate_keeps _ _ _)
  · exact htaken

theorem takeClearing_keeps (hname : s.name = .damaged) : Keeps s s.takeClearing :=
  keeps_of_name rfl (.inr (by rw [hname]; rfl))

theorem name_of_clearDamageResult (h : s.clearDamageResult = .accepted) : s.name = .damaged := by
  unfold State.clearDamageResult at h
  split at h
  case h_11 hname => exact hname
  all_goals contradiction

theorem runCommit_kept (hreset : s.inReset = false) : StepKept s s.runCommit :=
  longCommand_kept hreset _ fun _ => takeCommit_keeps _ _

theorem runRollback_kept (hreset : s.inReset = false) (c : Word) : StepKept s (s.runRollback c) :=
  longCommand_kept hreset _ fun _ => takeRollback_keeps _ _ _

theorem runDiscard_kept (hreset : s.inReset = false) (e : Word) : StepKept s (s.runDiscard e) :=
  longCommand_kept hreset _ fun _ => takeDiscard_keeps _ e

theorem runFormat_kept (hreset : s.inReset = false) : StepKept s s.runFormat :=
  longCommand_kept hreset _ fun _ => takeFormat_keeps _

theorem runClearDamage_kept (hreset : s.inReset = false) : StepKept s s.runClearDamage :=
  longCommand_kept hreset _ fun h => takeClearing_keeps (s := s.accept _) (name_of_clearDamageResult h)

end LongOperations

/-! ### Frames (R177, R178) -/

section Frames

variable {s : State}

theorem runFrame_kept (hreset : s.inReset = false) (i : Instr) : StepKept s (s.runFrame i) := by
  cases i
  case getStatus | getIdentity | getReport | getPolicy | getStamp => exact answer_kept hreset _ _
  case unknownCommand => exact refuse_kept hreset _ _
  case readEvents => exact runReadEvents_kept hreset
  case setEventMask v => exact runSetEventMask_kept hreset v
  case getOpenEpoch => exact runGetOpenEpoch_kept hreset
  case getDirectoryEntry k => exact runGetDirectoryEntry_kept hreset k
  case setPolicy selector v => exact runSetPolicy_kept hreset selector v
  case stageWindow slot base length mode => exact runStageWindow_kept hreset slot base length mode
  case clearWindow slot => exact runClearWindow_kept hreset slot
  case getWindow table slot => exact runGetWindow_kept hreset table slot
  case commit => exact runCommit_kept hreset
  case rollback c => exact runRollback_kept hreset c
  case discard e => exact runDiscard_kept hreset e
  case format => exact runFormat_kept hreset
  case clearDamage => exact runClearDamage_kept hreset
  case setStamp v => exact runSetStamp_kept hreset v
  case linkReset => exact runLinkReset_kept hreset
  all_goals exact .refl s

/-- R178: with CS_N low and the part out of reset the decoder may move to any position. -/
theorem position_kept (hbusy : s.link.pos ≠ .idle) (p : FramePos) : StepKept s { s with link.pos := p } :=
  { LawsKept.refl s with
    frame := fun hs => by
      have hlow : (s.link.csLow && !s.inReset) = true := by simpa [State.frameIdle, hbusy] using hs
      exact Bool.or_eq_true_iff.2 (.inl hlow)
    port := id
    rest := Or.imp id (settled_of_same rfl rfl rfl) }

theorem afterByte_kept (hreset : s.inReset = false) (hbusy : s.link.pos ≠ .idle) (code : Byte) (got : List Byte) :
    StepKept s (s.afterByte code got) := by
  unfold State.afterByte
  split
  · exact runFrame_kept hreset _
  · split
    · exact runFrame_kept hreset _
    · exact position_kept hbusy _

theorem endByte_kept (hreset : s.inReset = false) (mosi : Byte) : StepKept s (s.endByte mosi) := by
  unfold State.endByte
  split
  case h_1 | h_6 => exact .refl s
  case h_2 hpos => exact afterByte_kept hreset (by simp [hpos]) _ _
  case h_3 hpos => exact afterByte_kept hreset (by simp [hpos]) _ _
  case h_4 hpos => exact position_kept (by simp [hpos]) _
  case h_5 hpos => exact position_kept (by simp [hpos]) _

theorem startFrame_kept (s : State) : StepKept s s.startFrame := by
  unfold State.startFrame
  split
  case isTrue hreset =>
    exact {
      LawsKept.refl s with
      frame := fun hs => by simpa [State.frameIdle, hreset] using hs
      port := id
      rest := fun _ => .inl hreset }
  case isFalse hreset =>
    split
    · exact .refl s
    · exact {
        LawsKept.refl s with
        frame := fun _ => by simp [State.frameIdle, hreset]
        port := id
        rest := Or.imp id (settled_of_same rfl rfl rfl) }

theorem endFrame_kept (s : State) : StepKept s s.endFrame := by
  unfold State.endFrame
  split
  case isTrue hreset =>
    exact {
      LawsKept.refl s with
      frame := fun hs => by simpa [State.frameIdle, hreset] using hs
      port := id
      rest := fun _ => .inl hreset }
  case isFalse hreset =>
    exact {
      LawsKept.refl s with
      frame := fun _ => by simp [State.frameIdle]
      quiet := fun _ => quietReset_of_live (Bool.eq_false_iff.2 hreset)
      port := id
      rest := Or.imp id (settled_of_same rfl rfl rfl) }

theorem live_kept {f : State → State} (hf : s.inReset = false → StepKept s (f s)) : StepKept s (s.live f) := by
  unfold State.live
  split
  · exact .refl s
  case isFalse hreset => exact hf (Bool.eq_false_iff.2 hreset)

end Frames

/-! ### Every command -/

section Commands

variable {s t : State}

theorem presented_kept (s : State) (r : Request) : StepKept s (State.event { s with front.presented := s.front.presented ++ [r] } id) :=
  stepKept_event_id { LawsKept.refl s with } id

theorem stampIncrement_kept (hreset : s.inReset = false) : StepKept s { s with stamp := s.stamp + 1 } :=
  { LawsKept.refl s with
    quiet := fun _ => quietReset_of_live hreset
    port := id
    rest := Or.imp id (settled_of_same rfl rfl rfl) }

theorem exec_kept (i : Instr) (h : exec i s = .next t) : StepKept s t := by
  cases i
  case haltBegin => exact haltBegin_kept h
  case haltEnd => exact haltEnd_kept h
  all_goals cases h
  case powerUp straps prst pfw cs raised =>
    exact stepKept_event_id (afterReset_laws s straps prst pfw cs raised)
      fun _ => afterReset_portDisciplined s straps prst pfw cs raised
  case prstAssert straps raised =>
    exact {
      afterReset_laws s straps true _ _ raised with
      port := fun _ => afterReset_portDisciplined s straps true _ _ raised
      rest := fun _ => .inl rfl }
  case prstWithdraw => exact stepKept_event_id (withdraw_laws s) id
  case requestAccept r => exact presented_kept s r
  case holdExpiry => exact stepKept_event (holdExpired_keeps s).effect
  case memoryResponse a => exact stepKept_event (memoryResponded_effect · a)
  case autoCommitExpiry => exact stepKept_event (autoExpired_keeps s).effect
  case lineQualify l => exact stepKept_event (qualify_effect · l)
  case retireSweepEnd => exact stepKept_event retireEnded_effect
  case fullClearEnd => exact stepKept_event clearEnded_effect
  case lineSamplingEvent ckpt fallback => exact stepKept_event (sampleLines_effect · ckpt fallback)
  case stampIncrement => exact live_kept stampIncrement_kept
  case bytePositionEnd mosi => exact live_kept (endByte_kept · mosi)
  case frameStart => exact startFrame_kept s
  case frameEnd => exact endFrame_kept s
  case getStatus => exact linkCommand_kept (runFrame_kept · .getStatus)
  case getIdentity => exact linkCommand_kept (runFrame_kept · .getIdentity)
  case readEvents => exact linkCommand_kept runReadEvents_kept
  case setEventMask v => exact linkCommand_kept (runSetEventMask_kept · v)
  case getOpenEpoch => exact linkCommand_kept runGetOpenEpoch_kept
  case getDirectoryEntry k => exact linkCommand_kept (runGetDirectoryEntry_kept · k)
  case getReport => exact linkCommand_kept (runFrame_kept · .getReport)
  case setPolicy selector v => exact linkCommand_kept (runSetPolicy_kept · selector v)
  case getPolicy => exact linkCommand_kept (runFrame_kept · .getPolicy)
  case stageWindow slot base length mode => exact linkCommand_kept (runStageWindow_kept · slot base length mode)
  case clearWindow slot => exact linkCommand_kept (runClearWindow_kept · slot)
  case getWindow table slot => exact linkCommand_kept (runGetWindow_kept · table slot)
  case setStamp v => exact linkCommand_kept (runSetStamp_kept · v)
  case getStamp => exact linkCommand_kept (runFrame_kept · .getStamp)
  case linkReset => exact linkCommand_kept runLinkReset_kept
  case unknownCommand code => exact linkCommand_kept (runFrame_kept · (.unknownCommand code))
  case commit => exact linkCommand_kept runCommit_kept
  case rollback c => exact linkCommand_kept (runRollback_kept · c)
  case discard e => exact linkCommand_kept (runDiscard_kept · e)
  case format => exact linkCommand_kept runFormat_kept
  case clearDamage => exact linkCommand_kept runClearDamage_kept

theorem pending_kept (s : State) (is : List Instr) : StepKept s { s with pending := is } :=
  { LawsKept.refl s with port := id, rest := Or.imp id (settled_of_same rfl rfl rfl) }

theorem step_kept (h : step s = .next t) : StepKept s t := by
  cases hpending : s.pending with
  | nil =>
    rw [step_of_empty hpending] at h
    cases h
    exact .refl s
  | cons i rest =>
    rw [step_of_command hpending] at h
    exact (pending_kept s rest).trans (exec_kept i h)

/-- Settles O57: each command's first effect keeps the laws, and so does every step inside its event. -/
theorem stepKeepsTheLaws : Obligations.StepKeepsTheLaws := by
  unfold Obligations.StepKeepsTheLaws
  refine ⟨fun s t hs h => (step_kept h).flag hs, fun s t h => ?_, fun s t h => ?_, fun s t h => ?_⟩
  · exact ⟨(step_kept h).queue, (step_kept h).directory, (step_kept h).tags, (step_kept h).qualifiers⟩
  · exact ⟨(step_kept h).timer, (step_kept h).hold⟩
  · exact ⟨(step_kept h).generation, (step_kept h).report, (step_kept h).frame, (step_kept h).quiet⟩

/-- Settles O58: what stands before the grants is kept by every step inside an event, and the grants establish the rest. -/
theorem stepKeepsThePortDiscipline : Obligations.StepKeepsThePortDiscipline := by
  unfold Obligations.StepKeepsThePortDiscipline
  exact fun s t hs h => (step_kept h).port hs

/-- Settles O59: an event's end is settled, and what is no event changes nothing that a step, a claim or a grant looks at. -/
theorem stepKeepsThePartSettled : Obligations.StepKeepsThePartSettled := by
  unfold Obligations.StepKeepsThePartSettled
  refine ⟨fun s t hs h => (step_kept h).rest hs, fun jb js prst pfw cs raised s t h => ?_⟩
  cases h
  cases prst
  case true => exact .inl rfl
  case false => exact .inr (finish_settled _ _)

end Commands

end Sys2Proof.Machine
end

section
/-! SUPPORT. A request presented: accepted behind others, or performed on the same event (R2, R9, R10, R158). -/

namespace Sys2Proof.Machine

/-! ### Events of few steps -/

section Steps

variable {s t u : State}

theorem settleWith_of_none (h : s.internalStep = none) (n : Nat) : State.settleWith n s = s := by
  cases n with
  | zero => rfl
  | succ n => rw [State.settleWith, h]

theorem settleWith_of_step (h : s.internalStep = some t) (n : Nat) : State.settleWith (n + 1) s = State.settleWith n t := by
  rw [State.settleWith, h]

/-- An event of one step. -/
theorem settle_of_step (h : s.internalStep = some t) (ht : t.internalStep = none) : s.settle = t := by
  obtain ⟨n, hn⟩ : ∃ n, s.fuel = n + 1 := ⟨63 + 16 * (s.front.queue.length + s.front.presented.length), by
    unfold State.fuel
    omega⟩
  rw [State.settle, hn, settleWith_of_step h, settleWith_of_none ht]

/-- An event of two steps. -/
theorem settle_of_two_steps (h : s.internalStep = some t) (ht : t.internalStep = some u) (hu : u.internalStep = none) :
    s.settle = u := by
  obtain ⟨n, hn⟩ : ∃ n, s.fuel = n + 2 := ⟨62 + 16 * (s.front.queue.length + s.front.presented.length), by
    unfold State.fuel
    omega⟩
  rw [State.settle, hn, settleWith_of_step h, settleWith_of_step ht, settleWith_of_none hu]

theorem arbitrate_of_busyWhileClaimed (h : s.port.busyWhileClaimed = true) (w : Bool) : s.arbitrate w = s := by
  cases hflight : s.port.inFlight with
  | some f => exact if_pos (by rw [hflight]; rfl)
  | none =>
    obtain ⟨hreq, hctl⟩ : s.port.reqClaim = none ∧ s.port.ctlClaim = none := by
      simpa [Port.busyWhileClaimed, hflight] using h
    exact arbitrate_of_unclaimed w hreq hctl

theorem finish_of_settle (h : s.settle = t) (ht : t.settled = true) (w : Bool) : s.finish w = t := by
  obtain ⟨-, hclaim, hbusy⟩ := settled_iff.1 ht
  rw [State.finish, h, raiseCtlClaim_of_claimIdle hclaim, arbitrate_of_busyWhileClaimed hbusy]

theorem internalStep_of_settled (h : s.settled = true) : s.internalStep = none :=
  (internalStep_eq_none_iff s).2 (settled_iff.1 h).1

theorem finish_of_settled (h : s.settled = true) (w : Bool) : s.finish w = s :=
  finish_of_settle (settleWith_of_none (internalStep_of_settled h) _) h w

/-- Where controller and latches have nothing to do the front port makes the step. -/
theorem internalStep_of_frontStep (hctl : s.ctlIdle = true) (hoffers : s.offersIdle = true) :
    s.internalStep = s.frontStep := by
  have hnone : s.ctlStep = none := by rw [← Option.isNone_iff_eq_none, ctlStep_isNone, hctl]
  have hoffer : s.offerStep = none := by rw [← Option.isNone_iff_eq_none, offerStep_isNone, hoffers]
  rw [State.internalStep, hnone]
  exact eitherFirst_of_left_none hoffer

theorem frontStep_of_headStep (h : s.headStep = some t) : s.frontStep = some t := by
  rw [State.frontStep, h]

theorem frontStep_of_headIdle (h : s.headIdle = true) : s.frontStep = s.acceptStep := by
  have hnone : s.headStep = none := by rw [← Option.isNone_iff_eq_none, headStep_isNone, h]
  rw [State.frontStep, hnone]

theorem acceptStep_of_cons {r : Request} {rest : List Request} (h : s.front.presented = r :: rest)
    (hroom : s.front.queue.length < 4) : s.acceptStep = some
      { s with front.presented := rest, front.queue := s.front.queue ++ [{ req := r, marked := false }] } := by
  rw [State.acceptStep, h]
  exact if_pos hroom

/-- The controller goes on having nothing to do while no mark is removed and no head leaves. -/
theorem ctlIdle_of_same (hjc : t.jc = s.jc) (htags : t.tags = s.tags) (hmarks : t.noneMarked = s.noneMarked)
    (hhead : s.inProgress = true → t.inProgress = true) (h : s.ctlIdle = true) : t.ctlIdle = true := by
  simp only [State.ctlIdle, State.openNumber, hjc, htags, hmarks] at h ⊢
  revert h
  split
  case h_6 =>
    split
    case h_1 =>
      simp only [Bool.or_eq_true]
      exact Or.imp hhead id
    case h_2 => exact hhead
    all_goals exact id
  case h_7 =>
    split
    case h_1 | h_3 => exact hhead
    all_goals exact id
  all_goals exact id

/-! ### A request presented in a settled part (R2, R9, R10, R158) -/

theorem exec_requestAccept (r : Request) (s : State) (hreset : s.inReset = false) : exec (.requestAccept r) s =
    .next (State.finish s.claimWaits { s with front.presented := s.front.presented ++ [r] }) :=
  congrArg Host.Outcome.next (event_of_live (s := { s with front.presented := s.front.presented ++ [r] }) hreset id)

/-- R2: the request that stands alone at the front side. -/
def State.presenting (r : Request) (s : State) : State := { s with front.presented := [r] }

/-- R2: the request accepted, unmarked, behind every request queued. -/
def State.accepting (r : Request) (s : State) : State :=
  { s with front.queue := s.front.queue ++ [{ req := r, marked := false }] }

variable {r : Request}

theorem exec_requestAccept_alone (hreset : s.inReset = false) (hpresented : s.front.presented = []) :
    exec (.requestAccept r) s = .next ((s.presenting r).finish s.claimWaits) := by
  rw [exec_requestAccept r s hreset, hpresented]
  rfl

theorem noneMarked_accepting (r : Request) (s : State) : (s.accepting r).noneMarked = s.noneMarked := by
  simp [State.noneMarked, State.accepting]

theorem headIdle_accepting (hqueue : s.front.queue ≠ []) : (s.accepting r).headIdle = s.headIdle := by
  obtain ⟨e, rest, hcons⟩ := List.exists_cons_of_ne_nil hqueue
  have hqueued : (s.accepting r).front.queue = e :: (rest ++ [{ req := r, marked := false }]) := by
    simp [State.accepting, hcons]
  unfold State.headIdle
  rw [hcons, hqueued]
  rfl

theorem ctlIdle_accepting (h : s.ctlIdle = true) : (s.accepting r).ctlIdle = true :=
  ctlIdle_of_same (s := s) rfl rfl (noneMarked_accepting r s) id h

/-- R2: the one step of a request that finds room in the queue. -/
theorem internalStep_presenting (h : s.settled = true) (hpresented : s.front.presented = []) (hroom : s.front.queue.length < 4) :
    (s.presenting r).internalStep = some (s.accepting r) := by
  obtain ⟨hctl, hoffers, hhead, -⟩ := (stepIdle_iff s).1 (settled_iff.1 h).1
  rw [internalStep_of_frontStep (s := s.presenting r) hctl hoffers, frontStep_of_headIdle (s := s.presenting r) hhead,
    acceptStep_of_cons (s := s.presenting r) rfl hroom]
  simp [State.accepting, State.presenting, ← hpresented]

theorem accepting_settled (h : s.settled = true) (hqueue : s.front.queue ≠ []) (hpresented : s.front.presented = []) :
    (s.accepting r).settled = true := by
  obtain ⟨hstep, hclaim, hbusy⟩ := settled_iff.1 h
  obtain ⟨hctl, hoffers, hhead, -⟩ := (stepIdle_iff s).1 hstep
  refine settled_iff.2 ⟨(stepIdle_iff _).2 ⟨ctlIdle_accepting hctl, hoffers, (headIdle_accepting hqueue).trans hhead, ?_⟩, hclaim,
    hbusy⟩
  simp [State.acceptIdle, State.accepting, hpresented]

theorem requestAccept_behind_others (hreset : s.inReset = false) (h : s.settled = true) (hqueue : s.front.queue ≠ [])
    (hpresented : s.front.presented = []) : exec (.requestAccept r) s =
      .next (if s.front.queue.length < 4 then s.accepting r else s.presenting r) := by
  rw [exec_requestAccept_alone hreset hpresented]
  split
  case isTrue hroom =>
    have hsettled := accepting_settled (r := r) h hqueue hpresented
    rw [finish_of_settle (settle_of_step (internalStep_presenting h hpresented hroom) (internalStep_of_settled hsettled)) hsettled]
  case isFalse hfull =>
    obtain ⟨hstep, hclaim, hbusy⟩ := settled_iff.1 h
    obtain ⟨hctl, hoffers, hhead, -⟩ := (stepIdle_iff s).1 hstep
    have haccept : (s.presenting r).acceptIdle = true := by simp [State.acceptIdle, State.presenting, Nat.le_of_not_lt hfull]
    rw [finish_of_settled (s := s.presenting r) (settled_iff.2 ⟨(stepIdle_iff _).2 ⟨hctl, hoffers, hhead, haccept⟩, hclaim, hbusy⟩)]

/-- R9 to R14: a head that is not held back as such is handled by its class. -/
theorem headAction_of_class {e : Entry} (hhalt : s.lines.halt = false) (hmask : e.req.emptyMask = false) (hread : s.name ≠ .anchorRead)
    (hcommit : s.name ≠ .committing ∨ e.marked = true) : s.headAction e = s.classAction e := by
  unfold State.headAction
  rw [hhalt, hmask]
  split
  case isTrue => contradiction
  case isFalse =>
    split
    case h_1 => contradiction
    case h_2 =>
      obtain hne | hmarked := hcommit
      · contradiction
      · rw [hmarked]
        rfl
    all_goals rfl

/-- R9, R10: a plain request and a frozen read are performed, and count nothing. -/
theorem classAction_passes {e : Entry} (h : classOf s.jbase s.jsize s.windows.committed e.req.granule = .plain ∨
    classOf s.jbase s.jsize s.windows.committed e.req.granule = .frozen ∧ e.req.isWrite = false) :
    s.classAction e = .perform false := by
  unfold State.classAction
  obtain hplain | ⟨hfrozen, hread⟩ := h
  · rw [hplain]
  · rw [hfrozen, hread]
    rfl

/-- R13: what is done with a head that waits, outside a save and without halt. -/
theorem headStep_of_action {e : Entry} {rest : List Entry} (hqueue : s.front.queue = e :: rest) (hwaits : s.inProgress = false)
    (hsave : s.save = .idle) (hhalt : s.lines.halt = false) : s.headStep = s.act (s.headAction e) e := by
  unfold State.headStep
  rw [hwaits, hqueue, hhalt, hsave]
  rfl

/-- R3, R9: the request accepted alone and performed as the head. -/
def State.claiming (r : Request) (s : State) : State := (s.accepting r).claimFirst r.aligned (.performing false) .idle

/-- R9, R158: the head performed, its transaction granted at the free port. -/
theorem requestAccept_performed (hreset : s.inReset = false) (h : s.settled = true) (hqueue : s.front.queue = [])
    (hpresented : s.front.presented = []) (hphase : s.front.phase = .waiting) (hsave : s.save = .idle)
    (hhalt : s.lines.halt = false) (haction : s.headAction { req := r, marked := false } = .perform false)
    (hfree : s.port.inFlight = none) :
    exec (.requestAccept r) s = .next
      { s with
        front.queue := [{ req := r, marked := false }]
        front.phase := .performing false
        front.holdTimer := none
        front.holdReason := none
        port.inFlight := some (.request, r.aligned)
        port.lastGrant := .request } := by
  obtain ⟨hstep, hclaim, hbusy⟩ := settled_iff.1 h
  obtain ⟨hctl, hoffers, hhead, -⟩ := (stepIdle_iff s).1 hstep
  obtain ⟨hreq, hctlClaim⟩ : s.port.reqClaim = none ∧ s.port.ctlClaim = none := by
    simpa [Port.busyWhileClaimed, hfree] using hbusy
  have haccepts := internalStep_presenting (r := r) h hpresented (by simp [hqueue])
  have hqueued : (s.accepting r).front.queue = [{ req := r, marked := false }] := by simp [State.accepting, hqueue]
  have hwaits : (s.accepting r).inProgress = false := by
    simp [State.inProgress, State.accepting, hphase, hsave]
  have hperforms : (s.accepting r).internalStep = some ((s.accepting r).perform false) := by
    rw [internalStep_of_frontStep (s := s.accepting r) (ctlIdle_accepting hctl) hoffers]
    refine frontStep_of_headStep ?_
    rw [headStep_of_action hqueued hwaits hsave hhalt, show (s.accepting r).headAction _ = .perform false from haction]
    rfl
  have hclaims : (s.accepting r).perform false = s.claiming r := perform_of_queue hqueued false
  rw [hclaims] at hperforms
  have hidle : (s.claiming r).internalStep = none :=
    (internalStep_eq_none_iff _).2 <| (stepIdle_iff _).2
      ⟨ctlIdle_of_same (s := s) rfl rfl (noneMarked_accepting r s) (fun _ => rfl) hctl, hoffers, headIdle_of_inProgress rfl, by
        simp [State.acceptIdle, State.claiming, State.claimFirst, State.accepting, hpresented]⟩
  have hraised : (s.claiming r).raiseCtlClaim = s.claiming r := raiseCtlClaim_of_claimIdle hclaim
  rw [exec_requestAccept_alone hreset hpresented, State.finish, settle_of_two_steps haccepts hperforms hidle, hraised,
    arbitrate_of_reqClaim (s := s.claiming r) hfree rfl hctlClaim, grant_request rfl]
  simp [State.claiming, State.claimFirst, State.accepting, hqueue, hreq, hctlClaim, hsave]

/-- Settles O7: behind others by one step of the front port, as the head by two; what stands in queue and list together is what the
steps inside an event serve from the front. -/
theorem aRequestIsAcceptedAndPerformed : Obligations.ARequestIsAcceptedAndPerformed := by
  unfold Obligations.ARequestIsAcceptedAndPerformed
  refine ⟨⟨fun r s hreset hs hqueue hpresented => requestAccept_behind_others hreset hs hqueue hpresented, fun r s hreset => ?reset⟩,
    ?performed, ?accept, ?presented, ?served⟩
  case reset =>
    show Host.Outcome.next (State.event _ id) = _
    simp [State.event, State.live, hreset]
  case performed =>
    intro r s hreset hs hqueue hpresented hphase hsave hhalt hmask hread hcommit hclass hfree
    refine requestAccept_performed hreset hs hqueue hpresented hphase hsave hhalt ?_ hfree
    rw [headAction_of_class hhalt hmask hread (.inl hcommit), classAction_passes hclass]
  case accept =>
    intro s r rest hpresented
    refine ⟨acceptStep_of_cons hpresented, fun hfull => ?_, fun hnone => ?_⟩
    · rw [← Option.isNone_iff_eq_none, acceptStep_isNone, State.acceptIdle, decide_eq_true hfull, Bool.or_true]
    · rw [State.frontStep, hnone]
  case presented =>
    intro s hnone
    obtain ⟨-, -, -, haccept⟩ := (stepIdle_iff s).1 ((internalStep_eq_none_iff s).1 hnone)
    simpa [State.acceptIdle] using haccept
  case served =>
    intro s w
    obtain ⟨rs, hresponses, hrequests⟩ := (finish_follows s w).served
    exact ⟨rs.length, by rw [hresponses, List.length_append], hrequests⟩

end Steps

end Sys2Proof.Machine
end

section
/-! SUPPORT. A reset and the part held in it (R6, R29, R161, R167), what is done with a head by its class and the controller's state
(R5, R7, R9 to R16), the hold timer (R17, R18), and memory's answers to the head (R34, R66, R70). -/

namespace Sys2Proof.Machine

/-! ### Throughout PRST_N (log 10) -/

section Reset

variable {s : State}

theorem event_in_reset (hreset : s.inReset = true) (f : State → State) : s.event f = s := by
  simp [State.event, State.live, hreset]

theorem live_in_reset (hreset : s.inReset = true) (f : State → State) : s.live f = s := by
  simp [State.live, hreset]

theorem linkReady_in_reset (hreset : s.inReset = true) : s.linkReady = false := by
  simp [State.linkReady, hreset]

theorem linkCommand_in_reset (hreset : s.inReset = true) (f : State → State) : s.linkCommand f = s :=
  linkCommand_of_not_ready (linkReady_in_reset hreset) f

/-- Settles O6: the state after a reset field by field, and each command by its kind: an event, a link command, a change of the frame's or
the pins' own state. -/
theorem resetEmptiesAndHoldsThePart : Obligations.ResetEmptiesAndHoldsThePart := by
  unfold Obligations.ResetEmptiesAndHoldsThePart
  refine ⟨fun jb js raised s => ?_, fun s hreset => ?_⟩
  · refine ⟨_, rfl, rfl, rfl, rfl, rfl, rfl, rfl, rfl, rfl, rfl, rfl, rfl, rfl, rfl, rfl, rfl, ?_, ?_, ?_, rfl, rfl, rfl, rfl, rfl, rfl,
      rfl⟩
    · simp [State.raiseAll, State.afterReset, State.reset]
    · rfl
    · simp [State.ready, State.name, Ctl.name, State.raiseAll, State.afterReset, State.reset]
  · have hevent := fun f => congrArg (Host.Outcome.next (φ := Fault) (ρ := Refusal)) (event_in_reset hreset f)
    have hlive := fun f => congrArg (Host.Outcome.next (φ := Fault) (ρ := Refusal)) (live_in_reset hreset f)
    have hlink := fun f => congrArg (Host.Outcome.next (φ := Fault) (ρ := Refusal)) (linkCommand_in_reset hreset f)
    refine ⟨fun _ => hevent _, hevent _, hevent _, fun _ => hevent _, fun _ _ => hevent _, hevent _, hevent _, hlive _, fun _ => hlive _,
      hlink _, fun _ => hlink _, fun _ => hlink _, hlink _, hlink _, hlink _, fun _ => hlink _, hlink _, hlink _, hlink _,
      fun _ => hlink _, hlink _, fun _ => hlink _, hlink _, fun _ _ => hlink _, hlink _, fun _ _ _ _ => hlink _, fun _ => hlink _,
      fun _ _ => hlink _, hlink _, fun _ => hlink _, fun r => ?_, (exec_halt_in_reset hreset).1, (exec_halt_in_reset hreset).2, ?_, ?_⟩
    · exact congrArg Host.Outcome.next (event_in_reset (s := { s with front.presented := s.front.presented ++ [r] }) hreset id)
    · exact congrArg Host.Outcome.next (startFrame_in_reset hreset)
    · exact congrArg Host.Outcome.next (endFrame_in_reset hreset)

end Reset

/-! ### What is done with a head (R5, R9 to R16) -/

section Head

variable {s : State} {e : Entry} {rest : List Entry}

theorem headAction_of_name_anchorRead (hhalt : s.lines.halt = false) (hmask : e.req.emptyMask = false)
    (hname : s.name = .anchorRead) : s.headAction e = .wait .anchorRead := by
  unfold State.headAction
  rw [hhalt, hmask, hname]
  rfl

theorem headAction_of_commitPoint (hhalt : s.lines.halt = false) (hmask : e.req.emptyMask = false)
    (hname : s.name = .committing) (hmarked : e.marked = false) : s.headAction e = .wait .commitPoint := by
  unfold State.headAction
  rw [hhalt, hmask, hname, hmarked]
  rfl

theorem headAction_of_emptyMask (hmask : e.req.emptyMask = true) :
    s.headAction e = .answer (if s.lines.halt then .halted else .okay) false := by
  unfold State.headAction
  rw [hmask]
  cases s.lines.halt <;> rfl

theorem headStep_of_perform (hqueue : s.front.queue = e :: rest) (hwaits : s.inProgress = false) (hsave : s.save = .idle)
    (hhalt : s.lines.halt = false) {counts : Bool} (haction : s.headAction e = .perform counts) :
    s.headStep = some (s.claimFirst e.req.aligned (.performing counts) .idle) := by
  rw [headStep_of_action hqueue hwaits hsave hhalt, haction, State.act, perform_of_queue hqueue]

theorem headStep_of_answer (hqueue : s.front.queue = e :: rest) (hwaits : s.inProgress = false) (hsave : s.save = .idle)
    (hhalt : s.lines.halt = false) {st : Status} {refusal : Bool} (haction : s.headAction e = .answer st refusal) :
    s.headStep = some ((s.respond st []).raiseIf refusal .refused) := by
  rw [headStep_of_action hqueue hwaits hsave hhalt, haction, State.act]

/-- R12 to R16: a journaled head, state by state. -/
theorem journaledAction_by_name (s : State) (write marked : Bool) (hcommit : s.name ≠ .committing ∨ marked = true) :
    (s.name = .recovering → s.journaledAction write marked = .wait .recovering) ∧
    (s.name = .formatting → s.journaledAction write marked = .wait .formatting) ∧
    (s.name = .clearing → s.journaledAction write marked = .wait .clearing) ∧
    (s.name = .rollingBack → marked = false → s.journaledAction write marked = .wait .rollingBack) ∧
    (s.name = .damaged → s.journaledAction write marked = if write then .answer .damaged false else .perform false) ∧
    (s.name = .unguarded → s.journaledAction write marked =
      if write then (if s.jc.room.isSome then .wait .room else .perform true) else .perform false) ∧
    (s.name = .discarding → write = false → s.journaledAction write marked = .perform false) ∧
    (∀ c, s.jc.state = .discarding c → write = true → s.journaledAction write marked =
      if c.fromUnguarded then (if s.jc.room.isSome then .wait .room else .perform true) else .save) ∧
    (s.name = .opened ∨ s.name = .committing ∨ s.name = .rollingBack ∧ marked = true → s.journaledAction write marked =
      if write then (if s.jc.room.isSome then .wait .room else if s.openBroken then .perform true else .save)
      else .perform false) := by
  unfold State.journaledAction State.guardedWrite State.unguardedWrite State.name at *
  cases hk : s.jc.state <;> simp_all [Ctl.name]

/-! ### Classes (R7, R43) -/

/-- R43: the region in granules. -/
theorem inRegion_iff (jb : BitVec 4) (js : BitVec 3) (g : Nat) :
    inRegion jb js g = true ↔ 131072 * jb.toNat ≤ g ∧ g < 131072 * jb.toNat + 1024 * 2 ^ js.toNat := by
  have hfirst : regionBase jb / 32 = 131072 * jb.toNat := by unfold regionBase; omega
  have hbehind : (regionBase jb + regionSize js) / 32 = 131072 * jb.toNat + 1024 * 2 ^ js.toNat := by
    unfold regionBase regionSize
    omega
  simp only [inRegion, hfirst, hbehind, Bool.and_eq_true, decide_eq_true_eq]

theorem classOf_in_region {jb : BitVec 4} {js : BitVec 3} {g : Nat} (h : inRegion jb js g = true) (table : WindowTable) :
    classOf jb js table g = .journalRegion := if_pos h

/-- R7: the class of a granule in a window of a mode. -/
def Mode.toClass : Mode → Class
  | .journaled => .journaled
  | .frozen => .frozen

theorem classOf_in_window {jb : BitVec 4} {js : BitVec 3} {table : WindowTable} {g : Nat} {w : Window}
    (h : ¬inRegion jb js g = true) (hw : windowAt table g = some w) : classOf jb js table g = w.mode.toClass := by
  unfold classOf
  rw [if_neg h, hw]
  cases w with
  | mk base length mode => cases mode <;> rfl

theorem classOf_outside {jb : BitVec 4} {js : BitVec 3} {table : WindowTable} {g : Nat} (h : ¬inRegion jb js g = true)
    (hw : windowAt table g = none) : classOf jb js table g = .plain := by
  unfold classOf
  rw [if_neg h, hw]

/-- R7, R20: the one window that holds a granule is the one that is found. -/
theorem windowAt_of_sole {table : WindowTable} {g i : Nat} {w : Window} (hi : table[i]? = some (some w))
    (hw : w.base ≤ g ∧ g < w.base + w.length)
    (hother : ∀ (j : Nat) (v : Window), j ≠ i → table[j]? = some (some v) → ¬(v.base ≤ g ∧ g < v.base + v.length)) :
    windowAt table g = some w := by
  cases hfound : windowAt table g with
  | none =>
    have hnot := windowAt_none table g hfound i w hi
    rw [(w.holds_iff g).2 hw] at hnot
    contradiction
  | some v =>
    obtain ⟨j, hj, hholds⟩ := windowAt_some table g v hfound
    have hsame : j = i := by
      by_contra hne
      exact hother j v hne hj ((v.holds_iff g).1 hholds)
    rw [hsame, hi] at hj
    rw [Option.some.inj (Option.some.inj hj)]

theorem windowAt_of_none_holds {table : WindowTable} {g : Nat}
    (h : ∀ (i : Nat) (w : Window), table[i]? = some (some w) → ¬(w.base ≤ g ∧ g < w.base + w.length)) :
    windowAt table g = none := by
  cases hfound : windowAt table g with
  | none => rfl
  | some v =>
    obtain ⟨i, hi, hholds⟩ := windowAt_some table g v hfound
    exact absurd ((v.holds_iff g).1 hholds) (h i v hi)

/-- Settles O8: the table by class and, for a journaled head, by state; what performing and refusing do; and the classes. -/
theorem requestsByClassAndState : Obligations.RequestsByClassAndState := by
  unfold Obligations.RequestsByClassAndState
  refine ⟨fun s e hhalt hmask => ⟨headAction_of_name_anchorRead hhalt hmask, headAction_of_commitPoint hhalt hmask,
    fun hread hcommit => ?table⟩, fun s e rest hqueue hwaits hsave hhalt => ⟨fun counts haction => ?_, fun haction => ?_⟩,
    fun jb js table g => ⟨fun hfirst hbehind => ?_, fun houtside => ?_⟩⟩
  case table =>
    rw [headAction_of_class hhalt hmask hread hcommit]
    unfold State.classAction
    cases classOf s.jbase s.jsize s.windows.committed e.req.granule
    case journaled => exact journaledAction_by_name s e.req.isWrite e.marked hcommit
    all_goals rfl
  · rw [headStep_of_perform hqueue hwaits hsave hhalt haction]
    simp [State.claimFirst, hsave]
  · rw [headStep_of_answer hqueue hwaits hsave hhalt haction, respond_of_queue hqueue]
    simp [State.raiseIf, responseData, hsave]
  · exact classOf_in_region ((inRegion_iff jb js g).2 ⟨hfirst, hbehind⟩) table
  · have hregion : ¬inRegion jb js g = true := by
      rw [inRegion_iff]
      omega
    exact ⟨fun i w hi hw hother => classOf_in_window hregion (windowAt_of_sole hi hw hother), fun hnone =>
      classOf_outside hregion (windowAt_of_none_holds hnone)⟩

theorem classAction_refuses (h : classOf s.jbase s.jsize s.windows.committed e.req.granule = .journalRegion ∨
    classOf s.jbase s.jsize s.windows.committed e.req.granule = .frozen ∧ e.req.isWrite = true) :
    s.classAction e = .answer .refused e.req.isWrite := by
  unfold State.classAction
  obtain hregion | ⟨hfrozen, hwrite⟩ := h
  · rw [hregion]
  · rw [hfrozen, hwrite]
    rfl

/-- Settles O9, by the class of the head. -/
theorem refusedRequests : Obligations.RefusedRequests := by
  unfold Obligations.RefusedRequests
  intro s e rest hqueue hwaits hsave hhalt hmask hread hcommit hclass
  have haction : s.headAction e = .answer .refused e.req.isWrite := by
    rw [headAction_of_class hhalt hmask hread hcommit, classAction_refuses hclass]
  rw [headStep_of_answer hqueue hwaits hsave hhalt haction, respond_of_queue hqueue]
  cases e.req.isWrite <;> simp [State.raiseIf, State.raise, EventUnit.raise, Event.bit, responseData, hsave]

theorem returnSize_of_emptyMask {r : Request} (h : r.emptyMask = true) : r.returnSize = 0 := by
  cases r
  case wordWrite => rfl
  all_goals contradiction

/-- Settles O10, under halt and without. -/
theorem emptyMaskWritesAreAnsweredAtOnce : Obligations.EmptyMaskWritesAreAnsweredAtOnce := by
  unfold Obligations.EmptyMaskWritesAreAnsweredAtOnce
  intro s e rest hqueue hwaits hsave hmask
  have hsize := returnSize_of_emptyMask hmask
  cases hhalt : s.lines.halt
  case true =>
    rw [headStep_of_halt hhalt hwaits hqueue, respond_of_queue hqueue]
    simp [responseData, hsave, hsize]
  case false =>
    rw [headStep_of_answer hqueue hwaits hsave hhalt (headAction_of_emptyMask hmask), respond_of_queue hqueue, hhalt]
    simp [State.raiseIf, responseData, hsave, hsize]

/-! ### The hold timer (R17, R18) -/

theorem exec_holdExpiry (hreset : s.inReset = false) : exec .holdExpiry s = .next (s.holdExpired.finish s.claimWaits) :=
  congrArg Host.Outcome.next (event_of_live hreset State.holdExpired)

theorem holdExpired_of_running (hqueue : s.front.queue = e :: rest) (htimer : s.front.holdTimer.isSome = true)
    (hwaits : s.inProgress = false) : s.holdExpired = (s.respond .held []).raise .heldOut :=
  if_pos (by simp [State.holdRunning, hqueue, htimer, hwaits])

/-- Settles O12: the wait that begins, and the expiry where the timer runs for a waiting head and where it does not. -/
theorem theHoldTimerStartsAndExpires : Obligations.TheHoldTimerStartsAndExpires := by
  unfold Obligations.TheHoldTimerStartsAndExpires
  refine ⟨fun s e rest r hqueue hwaits hsave hhalt haction hreason => ?_, fun s e rest hreset hqueue htimer hwaits => ?_,
    fun s hreset hstands => ?_⟩
  · rw [headStep_of_action hqueue hwaits hsave hhalt, haction, State.act, if_neg hreason]
    simp [State.beginWait]
  · rw [exec_holdExpiry hreset, holdExpired_of_running hqueue htimer hwaits, respond_of_queue hqueue]
    simp [State.raise, EventUnit.raise, Event.bit, responseData]
  · rw [exec_holdExpiry hreset, State.holdExpired, hstands]
    rfl

/-! ### Memory's answers to the head (R9, R12, R34, R66, R70, R160) -/

theorem requestResponse_own {counts : Bool} (hsave : s.save = .idle) (hphase : s.front.phase = .performing counts)
    (data : List Byte) : s.requestResponse (.okay data) = s.ownOkay counts data := by
  simp only [State.requestResponse, hsave, hphase]

/-- R34: the write count stays at its highest value. -/
theorem countWrite_eq (ep : OpenEpoch) :
    ep.countWrite = { ep with writes := if ep.writes = 0xFFFFFFFF then 0xFFFFFFFF else ep.writes + 1 } := by
  unfold OpenEpoch.countWrite
  split
  case isTrue hmost => rw [← hmost]
  case isFalse => rfl

theorem ownOkay_of_queue (hqueue : s.front.queue = e :: rest) (counts : Bool) (data : List Byte) : s.ownOkay counts data =
    { s with
      front.queue := rest
      front.phase := .waiting
      front.holdTimer := none
      front.holdReason := none
      front.responses := s.front.responses ++ [{ status := .okay, data := data.take e.req.returnSize }]
      save := .idle
      jc.epoch := if counts then s.jc.epoch.map OpenEpoch.countWrite else s.jc.epoch } := by
  cases counts
  case false => exact respond_of_queue hqueue _ _
  case true => exact respond_of_queue (s := s.countWrite) hqueue _ _

theorem exec_error_request {r : Request} (hreset : s.inReset = false) (hflight : s.port.inFlight = some (.request, r)) :
    exec (.memoryResponse .error) s = .next (((s.portFreed .error).requestResponse .error).finish s.claimWaits) := by
  show Host.Outcome.next (s.event (State.memoryResponded .error)) = _
  rw [event_of_live hreset, memoryResponded_of_request _ hflight]

/-- Settles O13: OKAY for the head's own transaction, counted or not, and ERROR for any made for it. -/
theorem memoryAnswersTheHead : Obligations.MemoryAnswersTheHead := by
  unfold Obligations.MemoryAnswersTheHead
  refine ⟨fun s e rest counts r data hreset hflight hqueue hphase hsave => exec_okay_request hreset hflight ?_,
    fun s e rest r hreset hflight hqueue hbusy => ?_⟩
  · rw [requestResponse_own (s := { s with port.inFlight := none }) hsave hphase,
      ownOkay_of_queue (s := { s with port.inFlight := none }) hqueue, funext countWrite_eq]
    simp only [hsave]
  · have hanswered : (s.portFreed .error).requestResponse .error = (s.portFreed .error).respond .memory [] := if_pos hbusy
    rw [exec_error_request hreset hflight, hanswered, respond_of_queue (s := s.portFreed .error) hqueue]
    rfl

end Head

end Sys2Proof.Machine
end

section
/-! SUPPORT. The link commands that report identity, policies, the rollback report and windows (R24, R133, R183, R184, R191), and those that
stage and clear a window (R22, R23). -/

namespace Sys2Proof.Machine

/-! ### Identity, policies and the rollback report (R133, R183, R184, R191) -/

section Reports

variable {s : State}

theorem exec_getIdentity (h : s.linkReady = true) : exec .getIdentity s = .next (s.answer .done s.identityBytes) :=
  congrArg Host.Outcome.next (linkCommand_of_ready h _)

theorem exec_getPolicy (h : s.linkReady = true) : exec .getPolicy s = .next (s.answer .done s.link.policies.bytes) :=
  congrArg Host.Outcome.next (linkCommand_of_ready h _)

theorem exec_getReport (h : s.linkReady = true) : exec .getReport s = .next (s.answer .done (reportBytes s.events.report)) :=
  congrArg Host.Outcome.next (linkCommand_of_ready h _)

theorem exec_getWindow (h : s.linkReady = true) (table slot : Byte) :
    exec (.getWindow table slot) s = .next (s.runGetWindow table slot) :=
  congrArg Host.Outcome.next (linkCommand_of_ready h _)

/-- R183: the part code is 2,410. -/
theorem identityBytes_eq (s : State) : s.identityBytes =
    [s.jbase.setWidth 8] ++ leBytes 4 (4194304 * s.jbase.toNat) ++ [s.jsize.setWidth 8] ++
      leBytes 4 (32768 * 2 ^ s.jsize.toNat) ++ leBytes 4 ((32768 * 2 ^ s.jsize.toNat - 1024) / 48) ++ [0x6A, 0x09, 1] := by
  have hcode : leBytes 2 2410 ++ [1] = [0x6A, 0x09, 1] := by decide
  rw [← hcode, ← List.append_assoc]
  rfl

theorem byte_of_bool (b : Bool) : BitVec.ofNat 8 b.toNat = if b then 1 else 0 := by cases b <;> rfl

theorem policies_bytes_eq (p : Policies) : p.bytes =
    [if p.reclaim then 1 else 0] ++ leBytes 2 p.autoCommit.toNat ++ leBytes 2 p.holdLimit.toNat ++ [p.qualify.setWidth 8] := by
  rw [Policies.bytes, byte_of_bool]

theorem reportBytes_length (r : Report) : (reportBytes (some r)).length = 23 := by simp [reportBytes]

/-- R191: the eight fields of a report held, each at its offset in the response. -/
theorem reportBytes_fields (r : Report) :
    (reportBytes (some r)).getD 0 0 = 1 ∧ (reportBytes (some r)).getD 1 0 = r.cause.code ∧
      fieldAt 2 4 (reportBytes (some r)) = leBytes 4 (r.target.getD 0).toNat ∧
      fieldAt 6 4 (reportBytes (some r)) = leBytes 4 r.openAtStart.toNat ∧
      fieldAt 10 3 (reportBytes (some r)) = leBytes 3 r.replayed ∧
      fieldAt 13 4 (reportBytes (some r)) = leBytes 4 r.start.toNat ∧
      fieldAt 17 4 (reportBytes (some r)) = leBytes 4 (r.finish.getD 0).toNat ∧
      (reportBytes (some r)).getD 21 0 = outcomeCode r.outcome :=
  ⟨rfl, rfl, rfl, rfl, rfl, rfl, rfl, rfl⟩

theorem report_reported (hready : s.linkReady = true) {r : Report} (hreport : s.events.report = some r) :
    ∃ b : List Byte, b.length = 23 ∧ exec .getReport s = .next (s.answer .done b) ∧ b.getD 0 0 = 1 ∧
      b.getD 1 0 = r.cause.code ∧ leWord (fieldAt 2 4 b) = r.target.getD 0 ∧ leWord (fieldAt 6 4 b) = r.openAtStart ∧
      leNat (fieldAt 10 3 b) = r.replayed % 2 ^ 24 ∧ leWord (fieldAt 13 4 b) = r.start ∧
      leWord (fieldAt 17 4 b) = r.finish.getD 0 ∧ b.getD 21 0 = outcomeCode r.outcome := by
  obtain ⟨hpresent, hcause, htarget, hopen, hreplayed, hstart, hfinish, houtcome⟩ := reportBytes_fields r
  refine ⟨_, reportBytes_length r, ?_, hpresent, hcause, ?_, ?_, ?_, ?_, ?_, houtcome⟩
  · rw [exec_getReport hready, hreport]
  · rw [htarget, leWord_leBytes]
  · rw [hopen, leWord_leBytes]
  · rw [hreplayed, leNat_leBytes]
    norm_num
  · rw [hstart, leWord_leBytes]
  · rw [hfinish, leWord_leBytes]

/-! ### GET WINDOW (R24) -/

theorem runGetWindow_busy (h : s.name = .anchorRead) (table slot : Byte) : s.runGetWindow table slot = s.refuse .busy 13 := if_pos h

theorem runGetWindow_badArgument (h : s.name ≠ .anchorRead) {table slot : Byte} (hbad : 1 < table.toNat ∨ 7 < slot.toNat) :
    s.runGetWindow table slot = s.refuse .badArgument 13 :=
  (if_neg h).trans (if_pos hbad)

theorem runGetWindow_done (h : s.name ≠ .anchorRead) {table slot : Byte} (htable : table.toNat ≤ 1) (hslot : slot.toNat ≤ 7) :
    s.runGetWindow table slot = s.answer .done
      (windowSlotBytes (if table = 0 then s.windows.committed else s.windows.staged) slot.toNat s.windows.stagedDiffers) :=
  (if_neg h).trans (if_neg (by omega))

/-- R190: the byte of a mode. -/
def Mode.byte : Mode → Byte
  | .journaled => 1
  | .frozen => 2

/-- R20, R191: the tag base that GET WINDOW reports, 0 for a FROZEN window. -/
def reportedTagBase (table : WindowTable) (slot : Nat) : Mode → Nat
  | .journaled => ((table.take slot).map tagLength).sum
  | .frozen => 0

/-- R191: the bytes of a slot, before the staged-differs byte. -/
theorem windowSlotBytes_empty {table : WindowTable} {slot : Nat} (h : table.getD slot none = none) (differs : Bool) :
    windowSlotBytes table slot differs = List.replicate 12 0 ++ [BitVec.ofNat 8 differs.toNat] := by
  rw [windowSlotBytes, h]

theorem windowSlotBytes_window {table : WindowTable} {slot : Nat} {w : Window} (h : table.getD slot none = some w) (differs : Bool) :
    windowSlotBytes table slot differs =
      ([w.mode.byte] ++ leBytes 4 w.base ++ leBytes 4 w.length ++ leBytes 3 (reportedTagBase table slot w.mode)) ++
        [BitVec.ofNat 8 differs.toNat] := by
  rw [windowSlotBytes, h]
  cases w with
  | mk base length mode => cases mode <;> rfl

/-- What GET WINDOW's response says of a slot (R24, R191). -/
def WindowReported (table : WindowTable) (slot : Nat) (b : List Byte) : Prop :=
  match table.getD slot none with
  | none => b.take 12 = List.replicate 12 0
  | some w => b.getD 0 0 = w.mode.byte ∧ fieldAt 1 4 b = leBytes 4 w.base ∧ fieldAt 5 4 b = leBytes 4 w.length ∧
    fieldAt 9 3 b = leBytes 3 (reportedTagBase table slot w.mode)

theorem windowSlotBytes_reported (table : WindowTable) (slot : Nat) (differs : Bool) :
    (windowSlotBytes table slot differs).length = 13 ∧
      ((windowSlotBytes table slot differs).getD 12 0 = if differs then 1 else 0) ∧
      WindowReported table slot (windowSlotBytes table slot differs) := by
  rw [← byte_of_bool]
  unfold WindowReported
  cases hslot : table.getD slot none with
  | none =>
    rw [windowSlotBytes_empty hslot]
    exact ⟨rfl, rfl, rfl⟩
  | some w =>
    rw [windowSlotBytes_window hslot]
    exact ⟨rfl, rfl, rfl, rfl, rfl, rfl⟩

/-- Settles O48: each report's bytes by their layout, and GET WINDOW's refusals in their order. -/
theorem theReportsAnswer : Obligations.TheReportsAnswer := by
  unfold Obligations.TheReportsAnswer
  intro s hready
  refine ⟨?_, ?_, fun hnone => ?_, fun r hr => report_reported hready hr, fun table slot =>
    ⟨fun hname => ?_, fun hname hbad => ?_, fun hname htable hslot => ?_⟩⟩
  · rw [exec_getIdentity hready, identityBytes_eq]
    rfl
  · rw [exec_getPolicy hready, policies_bytes_eq]
    rfl
  · rw [exec_getReport hready, hnone]
    rfl
  · rw [exec_getWindow hready, runGetWindow_busy hname]
    rfl
  · rw [exec_getWindow hready, runGetWindow_badArgument hname hbad]
    rfl
  · obtain ⟨hlength, hdiffers, hreported⟩ := windowSlotBytes_reported
      (if table = 0 then s.windows.committed else s.windows.staged) slot.toNat s.windows.stagedDiffers
    refine ⟨_, hlength, ?_, hdiffers, hreported⟩
    rw [exec_getWindow hready, runGetWindow_done hname htable hslot]
    rfl

end Reports

/-! ### CLEAR WINDOW (R23) -/

section Clear

variable {s : State}

theorem exec_clearWindow (h : s.linkReady = true) (slot : Byte) : exec (.clearWindow slot) s = .next (s.runClearWindow slot) :=
  congrArg Host.Outcome.next (linkCommand_of_ready h _)

theorem runClearWindow_busy (h : s.name = .anchorRead) (slot : Byte) : s.runClearWindow slot = s.refuse .busy 0 := if_pos h

theorem runClearWindow_badArgument (h : s.name ≠ .anchorRead) {slot : Byte} (hslot : 7 < slot.toNat) :
    s.runClearWindow slot = s.refuse .badArgument 0 :=
  (if_neg h).trans (if_pos hslot)

theorem runClearWindow_done (h : s.name ≠ .anchorRead) {slot : Byte} (hslot : slot.toNat ≤ 7) : s.runClearWindow slot =
    State.answer .done [] { s with windows := s.windows.stage (s.windows.staged.set slot.toNat none) } :=
  (if_neg h).trans (if_neg (Nat.not_lt.2 hslot))

/-- R23: staging a table again that is staged already changes nothing while the flag is exact. -/
theorem stage_same (h : s.flagExact = true) : s.windows.stage s.windows.staged = s.windows := by
  have hflag : s.windows.stagedDiffers = differ s.windows.staged s.windows.committed := beq_iff_eq.1 h
  unfold WindowUnit.stage WindowUnit.workOut
  rw [← hflag]

theorem set_none_of_empty {table : WindowTable} {k : Nat} (h : table[k]? = some none) : table.set k none = table := by
  obtain ⟨hk, hslot⟩ := List.getElem?_eq_some_iff.1 h
  rw [← hslot, List.set_getElem_self]

/-- Settles O52: the refusals in their order, and the slot emptied. -/
theorem clearWindowEmptiesOneSlot : Obligations.ClearWindowEmptiesOneSlot := by
  unfold Obligations.ClearWindowEmptiesOneSlot
  intro s slot hready
  refine ⟨fun hname => ?_, fun hname hslot => ?_, fun hname hslot => ?_, fun hname hslot hempty hflag => ?_⟩
  · rw [exec_clearWindow hready, runClearWindow_busy hname]
    rfl
  · rw [exec_clearWindow hready, runClearWindow_badArgument hname hslot]
    rfl
  · rw [exec_clearWindow hready, runClearWindow_done hname hslot]
    rfl
  · rw [exec_clearWindow hready, runClearWindow_done hname hslot, set_none_of_empty hempty, stage_same hflag]
    rfl

end Clear

/-! ### STAGE WINDOW (R22) -/

section Stage

variable {s : State}

theorem exec_stageWindow (h : s.linkReady = true) (slot : Byte) (base length : Word) (mode : Byte) :
    exec (.stageWindow slot base length mode) s = .next (s.runStageWindow slot base length mode) :=
  congrArg Host.Outcome.next (linkCommand_of_ready h _)

theorem runStageWindow_busy (h : s.name = .anchorRead) (slot : Byte) (base length : Word) (mode : Byte) :
    s.runStageWindow slot base length mode = s.refuse .busy 0 := if_pos h

theorem runStageWindow_refused (h : s.name ≠ .anchorRead) {slot mode : Byte} {base length : Word} {r : Result}
    (hcheck : s.stageCheck slot base length mode = .error r) : s.runStageWindow slot base length mode = s.refuse r 0 := by
  rw [State.runStageWindow, if_neg h, hcheck]

theorem runStageWindow_done (h : s.name ≠ .anchorRead) {slot mode : Byte} {base length : Word} {w : Window}
    (hcheck : s.stageCheck slot base length mode = .ok w) : s.runStageWindow slot base length mode =
      State.answer .done [] { s with windows := s.windows.stage (s.windows.staged.set slot.toNat (some w)) } := by
  rw [State.runStageWindow, if_neg h, hcheck]

/-- R190: the mode bytes. -/
theorem modeOf_named {mode : Byte} {m : Mode} (h : mode = 1 ∧ m = .journaled ∨ mode = 2 ∧ m = .frozen) : modeOf mode = some m := by
  obtain ⟨rfl, rfl⟩ | ⟨rfl, rfl⟩ := h <;> rfl

theorem stageCheck_badArgument {slot mode : Byte} (h : 7 < slot.toNat ∨ mode ≠ 1 ∧ mode ≠ 2) (base length : Word) :
    s.stageCheck slot base length mode = .error .badArgument := by
  unfold State.stageCheck
  obtain hslot | ⟨hone, htwo⟩ := h
  · cases modeOf mode with
    | none => rfl
    | some m => exact if_pos hslot
  · rw [modeOf, if_neg hone, if_neg htwo]

/-- R22: the checks behind those of mode and slot, in their order. -/
theorem stageCheck_of_mode {slot mode : Byte} {m : Mode} (hmode : modeOf mode = some m) (hslot : slot.toNat ≤ 7)
    (base length : Word) : s.stageCheck slot base length mode =
      if length.toNat = 0 ∨ 2097151 < base.toNat ∨ 2097152 < base.toNat + length.toNat then .error .badArgument
      else if overlaps s.jbase s.jsize s.windows.staged slot.toNat ⟨base.toNat, length.toNat, m⟩ then .error .overlap
      else if 131072 < journaledLength (s.windows.staged.set slot.toNat (some ⟨base.toNat, length.toNat, m⟩)) ∧ m = .journaled then
        .error .noTagRoom
      else .ok ⟨base.toNat, length.toNat, m⟩ := by
  rw [State.stageCheck, hmode]
  exact if_neg (Nat.not_lt.2 hslot)

/-- R22: a window of a table shares a granule with the one staged. -/
theorem meetsTable_iff (w : Window) (table : WindowTable) : meetsTable w table = true ↔
    ∃ (i : Nat) (x : Window), table[i]? = some (some x) ∧ x.base < w.base + w.length ∧ w.base < x.base + x.length := by
  rw [meetsTable, List.any_eq_true]
  constructor
  · rintro ⟨v, hv, hmeets⟩
    cases v with
    | none => contradiction
    | some x =>
      obtain ⟨i, hi⟩ := List.mem_iff_getElem?.1 hv
      simp only [runsMeet, Bool.and_eq_true, decide_eq_true_eq] at hmeets
      exact ⟨i, x, hi, hmeets.2, hmeets.1⟩
  · rintro ⟨i, x, hi, hbelow, habove⟩
    refine ⟨some x, List.mem_iff_getElem?.2 ⟨i, hi⟩, ?_⟩
    simp only [runsMeet, Bool.and_eq_true, decide_eq_true_eq]
    exact ⟨habove, hbelow⟩

/-- The windows of the other slots. -/
theorem set_none_slot (table : WindowTable) (k i : Nat) (x : Window) :
    (table.set k none)[i]? = some (some x) ↔ i ≠ k ∧ table[i]? = some (some x) := by
  rw [List.getElem?_set]
  by_cases h : k = i
  · subst h
    by_cases hlt : k < table.length <;> simp [hlt]
  · simp [h, Ne.symm h]

/-- R22 (3), R43: what a window may not share a granule with. -/
theorem overlaps_iff (jb : BitVec 4) (js : BitVec 3) (table : WindowTable) (k : Nat) (w : Window) :
    overlaps jb js table k w = true ↔
      (w.base < 131072 * jb.toNat + 1024 * 2 ^ js.toNat ∧ 131072 * jb.toNat < w.base + w.length) ∨
        ∃ i x, i ≠ k ∧ table[i]? = some (some x) ∧ x.base < w.base + w.length ∧ w.base < x.base + x.length := by
  have hfirst : regionBase jb / 32 = 131072 * jb.toNat := by unfold regionBase; omega
  have hsize : regionSize js / 32 = 1024 * 2 ^ js.toNat := by unfold regionSize; omega
  simp only [overlaps, runsMeet, hfirst, hsize, Bool.or_eq_true, Bool.and_eq_true, decide_eq_true_eq, meetsTable_iff, set_none_slot,
    and_assoc]

/-- Settles O51: by the checks in their order. -/
theorem stageWindowChecksInOrder : Obligations.StageWindowChecksInOrder := by
  unfold Obligations.StageWindowChecksInOrder
  intro s slot mode base length hready
  refine ⟨fun hname => ?_, fun hname hbad => ?_, fun m hname hslot hmode => ?_⟩
  · rw [exec_stageWindow hready, runStageWindow_busy hname]
    rfl
  · rw [exec_stageWindow hready, runStageWindow_refused hname (stageCheck_badArgument hbad _ _)]
    rfl
  have hcheck := stageCheck_of_mode (s := s) (modeOf_named hmode) hslot base length
  have hoverlaps := overlaps_iff s.jbase s.jsize s.windows.staged slot.toNat ⟨base.toNat, length.toNat, m⟩
  refine ⟨fun hbad => ?_, fun hlength hbase hend => ⟨fun hshares => ?_, fun hshares hm hroom => ?_, fun hshares hroom => ?_⟩⟩
  · rw [if_pos hbad] at hcheck
    rw [exec_stageWindow hready, runStageWindow_refused hname hcheck]
    rfl
  all_goals rw [if_neg (by omega)] at hcheck
  · rw [if_pos (hoverlaps.2 hshares)] at hcheck
    rw [exec_stageWindow hready, runStageWindow_refused hname hcheck]
    rfl
  · rw [if_neg (mt hoverlaps.1 hshares), if_pos ⟨hroom, hm⟩] at hcheck
    rw [exec_stageWindow hready, runStageWindow_refused hname hcheck]
    rfl
  · rw [if_neg (mt hoverlaps.1 hshares), if_neg fun h => Nat.not_lt.2 (hroom h.2) h.1] at hcheck
    rw [exec_stageWindow hready, runStageWindow_done hname hcheck]
    rfl

end Stage

end Sys2Proof.Machine
end
